-- ==== Sys2Proof/Word.lean ====
section
/-! DEFINITION. Word.lean: the plain data the manual treats as bits (bytes and pixels) and the one table helper.
Everything the manual counts, measures or compares (sizes, positions, times, counters) is a `Nat` or an `Int`, and its
ranges are tested where the manual tests them. -/
namespace Sys2Proof

/-- A byte of the control link or one channel of a pixel (spec/00_scope.md 4.3, 4.7). -/
abbrev Byte := BitVec 8

/-- A pixel: three channels, each an unsigned 8-bit value (spec/00_scope.md 4.3). -/
structure Pixel where
  r : Byte
  g : Byte
  b : Byte
deriving DecidableEq, Repr

/-- A fixed table computed entry by entry. -/
def tabulate {α : Type} {n : Nat} (f : Fin n → α) : Vector α n := Vector.ofFn f

/-- The table `v` with `f` applied to every entry. -/
def mapTable {α β : Type} {n : Nat} (f : α → β) (v : Vector α n) : Vector β n :=
  tabulate fun i => f v[i]

@[simp] theorem tabulate_get {α : Type} {n : Nat} (f : Fin n → α) (i : Nat) (h : i < n) :
    (tabulate f)[i] = f ⟨i, h⟩ := by
  simp [tabulate]

@[simp] theorem mapTable_get {α β : Type} {n : Nat} (f : α → β) (v : Vector α n) (i : Nat) (h : i < n) :
    (mapTable f v)[i] = f v[i] := by
  simp [mapTable]

end Sys2Proof
end

