-- ==== Sys2Proof/Syntax.lean ====
section
/-! DEFINITION. Syntax.lean: the commands of the Fendara N4, one constructor of `Instr` per row of
spec/opcode_table.json, and the operands they carry. A command is an EVENT of the part: a request frame that has arrived
whole on the control link, a packet or level change of a camera link, a change of a wired input, the expiry of one of
the part's own timers, the beginning or end of a transmission, or a change of the supply. -/
namespace Sys2Proof

/-! ### What a request frame carries around its fields -/

/-- What every request frame carries besides its fields (R168): the TAG byte, and the length of its payload (LEN - 2),
which the link port tests against the catalogue (R170 step 3, R175) before it looks at the fields. -/
structure Header where
  tag : Byte
  len : Nat
deriving DecidableEq, Repr

/-! ### Camera port items (R3) -/

/-- The items SET_CAMERA_CONFIG carries (R3, R4): everything of the port configuration but *enabled*. -/
structure PortItems where
  word0 : Nat
  word1 : Nat
  word2 : Nat
  word3 : Nat
  width : Nat
  height : Nat
  period : Nat
  damageLimit : Nat
  runLimit : Nat
  minWindow : Nat
  rateWindow : Nat
  lostLimit : Nat
deriving DecidableEq, Repr

/-! ### Metering items (R44) -/

/-- The assessment gate (R44): NONE, MOVING or a signal. -/
inductive Gate where
  | ungated
  | moving
  | signal (n : Nat)
deriving DecidableEq, Repr

/-- The metering items of one camera (R44). -/
structure MeterItems where
  winX : Nat
  winY : Nat
  winW : Nat
  winH : Nat
  gainMin : Nat
  gainMax : Nat
  target : Nat
  slew : Nat
  deadBand : Nat
  clarityThreshold : Nat
  interval : Nat
  darkLimit : Nat
  gate : Gate
  clearMax : Nat
  obscuredMin : Nat
deriving DecidableEq, Repr

/-! ### Mesh nodes (R62) -/

/-- A mesh node: a source position in sixteenths (R62). -/
structure Node where
  u : Int
  v : Int
deriving DecidableEq, Repr

/-! ### Tiles (R74) -/

/-- The two mapping codes a tile may carry (R74). -/
inductive MappingKind where
  | linear
  | mesh
deriving DecidableEq, Repr

/-- A tile record as DEFINE_VIEW carries it (R74, R76). `none` in a coded field is a code other than the defined ones. -/
structure TileFields where
  camera : Nat
  x : Nat
  y : Nat
  w : Nat
  h : Nat
  mapping : Option MappingKind
  sx : Nat
  sy : Nat
  sw : Nat
  sh : Nat
  slot : Nat
  mirror : Option Bool
  fill : Pixel
deriving DecidableEq, Repr

/-! ### Overlay primitives (R83, R84) -/

/-- Blink (R83). -/
inductive Blink where
  | steady
  | slow
  | fast
deriving DecidableEq, Repr

/-- The geometry of a primitive (R84). -/
inductive Geometry where
  | line (x0 y0 x1 y1 : Int) (b : Nat)
  | rect (x y : Int) (w h b : Nat)
  | box (x y : Int) (w h : Nat)
  | glyph (x y : Int) (g s : Nat)
deriving DecidableEq, Repr

/-- The show-when field as carried (R83): a wanted value of `none` is a code that is neither true nor false. -/
inductive ShowFields where
  | always
  | onSignal (signal : Nat) (wanted : Option Bool)
deriving DecidableEq, Repr

/-- A primitive as OVERLAY_APPEND carries it (R83, R84). `none` in a coded field is an undefined code. -/
structure PrimFields where
  geometry : Option Geometry
  colour : Pixel
  alpha : Nat
  blink : Option Blink
  showWhen : ShowFields
deriving DecidableEq, Repr

/-- The part of a view that READ_VIEW names (R81); `unknown` is a part code that is neither. -/
inductive ViewPart where
  | tiles
  | overlays (first : Nat)
  | unknown
deriving DecidableEq, Repr

/-! ### Selection (R141, R154) -/

/-- A term as SET_SELECTION_ENTRY carries it (R141, R149). -/
structure TermFields where
  signal : Nat
  wanted : Option Bool
deriving DecidableEq, Repr

/-- The fields SET_SELECTION_ENTRY carries (R149). `termCount` is the count byte of the payload (R175); bit n of `reload`
stands for Sn (R174). -/
structure EntryFields where
  termCount : Nat
  terms : List TermFields
  view : Nat
  dwell : Nat
  release : Nat
  reload : BitVec 16
deriving DecidableEq, Repr

/-- The part READ_SELECTION names (R154); `unknown` is a part code that is neither. -/
inductive SelectionPart where
  | summary
  | entries (first : Nat)
  | unknown
deriving DecidableEq, Repr

/-! ### Signal configuration (R128) -/

/-- A signal source as carried (R127, R136); `unknown` is an undefined source code. -/
inductive SourceFields where
  | wire (n : Nat)
  | message
  | speed (on off : Nat)
  | unknown
deriving DecidableEq, Repr

/-- Fail rules (R127). -/
inductive FailRule where
  | hold
  | setTrue
  | setFalse
deriving DecidableEq, Repr

/-- Polarity of a wired input (R128). -/
inductive Polarity where
  | activeHigh
  | activeLow
deriving DecidableEq, Repr

/-- The items of one signal as carried (R128, R136). -/
structure SignalFields where
  source : SourceFields
  failRule : Option FailRule
  timeout : Nat
deriving DecidableEq, Repr

/-- The items of one wired input as carried (R128, R136). -/
structure WireFields where
  polarity : Option Polarity
  debounce : Nat
deriving DecidableEq, Repr

/-- The whole signal configuration as SET_SIGNAL_CONFIG carries it (R136). Bit n of `wakeSet` stands for Wn. -/
structure SignalConfigFields where
  signals : Vector SignalFields 16
  wires : Vector WireFields 6
  speedTimeout : Nat
  moving : Nat
  wakeSet : BitVec 6
deriving DecidableEq, Repr

/-! ### The commands -/

/-- The commands of the part: one constructor per row of spec/opcode_table.json, in the table's order. The rule each
docstring names is the row's own. -/
inductive Instr where
  /-- R165: power is applied with the two strap pins at the given levels (true is high). -/
  | powerOnReset (strapA strapB : Bool)
  /-- R7: carrier detect of a camera link becomes present. -/
  | carrierPresent (cam : Fin 4)
  /-- R7: carrier detect of a camera link becomes absent. -/
  | carrierLost (cam : Fin 4)
  /-- R10: a 10-bit word arrives on a camera link. -/
  | trainingWord (cam : Fin 4) (word : BitVec 10)
  /-- R12: the word timer of a port expires. -/
  | wordTimerExpiry (cam : Fin 4)
  /-- R13: a FRAME_START packet. -/
  | frameStart (cam : Fin 4) (number : Byte)
  /-- R14: a LINE packet: line index, pixels and the line check it carries. -/
  | line (cam : Fin 4) (index : BitVec 16) (pixels : List Pixel) (check : BitVec 16)
  /-- R17: a FRAME_END packet; its line count is not used (chapter 1.1.1). -/
  | frameEnd (cam : Fin 4) (lineCount : Nat)
  /-- R34: the stale deadline of a ring expires. -/
  | staleDeadlineExpiry (cam : Fin 4)
  /-- R33: the lost deadline of a ring expires. -/
  | lostDeadlineExpiry (cam : Fin 4)
  /-- R68: the inactivity deadline of the upload in progress expires. -/
  | meshInactivityExpiry
  /-- R116: the display output begins a frame. -/
  | outputFrameStart
  /-- R118: the settle timer expires. -/
  | settleTimerExpiry
  /-- R122: the hold timer expires. -/
  | holdTimerExpiry
  /-- R129: the level of a wired input pin changes to `level` (true is high). -/
  | rawChange (wire : Fin 6) (level : Bool)
  /-- R129: the debounce timer of a wired input expires. -/
  | debounceTimerExpiry (wire : Fin 6)
  /-- R134: the refresh timer of a signal expires. -/
  | refreshTimerExpiry (signal : Fin 16)
  /-- R132: the speed refresh timer expires. -/
  | speedTimerExpiry
  /-- R145: the release timer of a selection entry expires. -/
  | releaseTimerExpiry (entry : Fin 16)
  /-- R153: the override timer expires. -/
  | overrideExpiry
  /-- R163: a profile write completes; `verified` says whether the verify passes. -/
  | profileSaveCompletion (verified : Bool)
  /-- R169: `bytes` arrive without fault, then `last` arrives with a stop-bit fault (`stopFault`) or as a bad LEN. -/
  | linkFraming (bytes : List Byte) (last : Byte) (stopFault : Bool)
  /-- R169: `bytes` arrive without fault, then the gap timer expires. -/
  | linkGap (bytes : List Byte)
  /-- R169: `bytes` arrive without fault and their last one completes a frame whose CHECK differs. -/
  | linkCheck (bytes : List Byte)
  /-- R170: a valid frame whose TYPE is not a request type. -/
  | unknownType (type : Byte) (h : Header)
  /-- R171: the part begins to send the owed reply. -/
  | replyStart
  /-- R171: the last byte of the reply has been sent. -/
  | replyEnd
  /-- R172: the part begins a STATUS_NOTICE. -/
  | noticeStart
  /-- R172: the last byte of the notice has been sent. -/
  | noticeEnd
  /-- R173: a read-back mismatch, or a controller byte while a reply is owed; `byte` is the value read from the line. -/
  | collision (byte : Byte) (stopFault : Bool)
  /-- R176. -/
  | identify (h : Header)
  /-- R178. -/
  | resetPart (h : Header)
  /-- R4. -/
  | setCameraConfig (h : Header) (cam : Nat) (items : PortItems)
  /-- R5. -/
  | cameraEnable (h : Header) (cam : Nat)
  /-- R6. -/
  | cameraDisable (h : Header) (cam : Nat)
  /-- R8. -/
  | cameraRetrain (h : Header) (cam : Nat)
  /-- R19. -/
  | readCameraReport (h : Header) (cam : Nat)
  /-- R57. -/
  | setMetering (h : Header) (cam : Nat) (items : MeterItems)
  /-- R64. -/
  | meshBegin (h : Header) (slot cols rows : Nat)
  /-- R65: the bytes of the payload (R174): the slot, the row, and those from offset 2 on, which hold the nodes. -/
  | meshRows (h : Header) (slot row : Byte) (nodes : List Byte)
  /-- R66. -/
  | meshEnd (h : Header) (slot : Nat)
  /-- R69. -/
  | meshFree (h : Header) (slot : Nat)
  /-- R76: `count` is the count byte of the payload. -/
  | defineView (h : Header) (view count : Nat) (tiles : List TileFields)
  /-- R87. -/
  | overlayClear (h : Header) (view : Nat)
  /-- R86: `count` is the count byte of the payload. -/
  | overlayAppend (h : Header) (view count : Nat) (prims : List PrimFields)
  /-- R80. -/
  | deleteView (h : Header) (view : Nat)
  /-- R81. -/
  | readView (h : Header) (view : Nat) (part : ViewPart)
  /-- R149. -/
  | setSelectionEntry (h : Header) (entry : Nat) (fields : EntryFields)
  /-- R150. -/
  | clearSelectionEntry (h : Header) (entry : Nat)
  /-- R151. -/
  | setDefaultView (h : Header) (view : Nat)
  /-- R152. -/
  | overrideView (h : Header) (view rank duration : Nat)
  /-- R153. -/
  | cancelOverride (h : Header)
  /-- R154. -/
  | readSelection (h : Header) (part : SelectionPart)
  /-- R131: the bytes of the payload (R174): those of the mask and of the values, each with its high byte first, and the
fifth one, which only a payload of 5 bytes carries. -/
  | signalUpdate (h : Header) (mask values : Byte × Byte) (speed : Byte)
  /-- R136. -/
  | setSignalConfig (h : Header) (config : SignalConfigFields)
  /-- R137. -/
  | readSignals (h : Header)
  /-- R138. -/
  | enterStandby (h : Header)
  /-- R117. -/
  | outputEnable (h : Header)
  /-- R119. -/
  | outputDisable (h : Header)
  /-- R120. -/
  | outputHold (h : Header)
  /-- R122. -/
  | outputResume (h : Header)
  /-- R123. -/
  | setOutputTiming (h : Header) (timing : Nat)
  /-- R158. -/
  | readConditions (h : Header)
  /-- R158. -/
  | readEvents (h : Header)
  /-- R159: bit n of the mask stands for status item n. -/
  | setEventEnable (h : Header) (mask : BitVec 32)
  /-- R161. -/
  | readError (h : Header)
  /-- R163. -/
  | saveProfile (h : Header) (slot : Nat)
  /-- R164. -/
  | loadProfile (h : Header) (slot : Nat)
  /-- R162: power is removed. -/
  | powerLoss
deriving DecidableEq, Repr

end Sys2Proof
end

