-- ==== Sys2Proof/Decode.lean ====
section
/-! DEFINITION. Decode.lean: the commands that a table word spells. No row of spec/opcode_table.json gives bits: the part
has no instruction words, its commands are frames, packets, level changes and expiries. So no word spells a command. -/
namespace Sys2Proof

/-- The command a word of the opcode table spells: none, since no row of the table gives bits (assumption 1). -/
def decodeTableWord (_nbits _w : Nat) : Option Instr := none

end Sys2Proof
end

