-- ==== Sys2Proof/Config.lean ====
section
/-! DEFINITION. Config.lean: the configuration a profile saves (R162), the factory configuration (R165), and the free
values: constants without a body for what the manual leaves open. -/
namespace Sys2Proof

/-! ### The saved configuration, part by part (R162) -/

/-- The configuration of one camera port (R3). -/
structure PortConfig where
  enabled : Bool
  items : PortItems
deriving DecidableEq, Repr

/-- A complete mesh: its dimensions and its rows of nodes, row 0 first (R60, R62). -/
structure Mesh where
  cols : Nat
  rows : Nat
  nodes : List (List Node)
deriving DecidableEq, Repr

/-- The mapping of a tile, with only the fields that mapping holds (R74). -/
inductive Mapping where
  | linear (sx sy sw sh : Nat)
  | mesh (slot : Fin 8)
deriving DecidableEq, Repr

/-- A tile of a defined view (R74). -/
structure Tile where
  camera : Fin 4
  x : Nat
  y : Nat
  w : Nat
  h : Nat
  mapping : Mapping
  mirror : Bool
  fill : Pixel
deriving DecidableEq, Repr

/-- When a primitive shows (R83). -/
inductive ShowWhen where
  | always
  | onSignal (signal : Fin 16) (wanted : Bool)
deriving DecidableEq, Repr

/-- A primitive of an overlay list, with alpha as clamped (R83). -/
structure Prim where
  geometry : Geometry
  colour : Pixel
  alpha : Nat
  blink : Blink
  showWhen : ShowWhen
deriving DecidableEq, Repr

/-- A defined view: its tiles in the carried order and its overlay list, oldest first (R73). -/
structure View where
  tiles : List Tile
  overlays : List Prim
deriving DecidableEq, Repr

/-- A term of a selection entry (R141). -/
structure Term where
  signal : Fin 16
  wanted : Bool
deriving DecidableEq, Repr

/-- The fields of a non-empty selection entry (R141). Bit n of `reload` stands for Sn. -/
structure EntryConfig where
  terms : List Term
  view : Fin 16
  dwell : Nat
  release : Nat
  reload : BitVec 16
deriving DecidableEq, Repr

/-- The source of a signal (R127). -/
inductive Source where
  | wire (n : Fin 6)
  | message
  | speed (on off : Nat)
deriving DecidableEq, Repr

/-- The configuration of one signal (R128). -/
structure SignalItems where
  source : Source
  failRule : FailRule
  timeout : Nat
deriving DecidableEq, Repr

/-- The configuration of one wired input (R128). -/
structure WireItems where
  polarity : Polarity
  debounce : Nat
deriving DecidableEq, Repr

/-- The signal configuration (R128). Bit n of `wakeSet` stands for Wn. -/
structure SignalConfig where
  signals : Vector SignalItems 16
  wires : Vector WireItems 6
  speedTimeout : Nat
  moving : Fin 16
  wakeSet : BitVec 6
deriving DecidableEq, Repr

/-- The four output timings (R115). -/
inductive Timing where
  | t0
  | t1
  | t2
  | t3
deriving DecidableEq, Repr

/-- A profile: a snapshot of the whole configuration of the part (R162). -/
structure Profile where
  ports : Vector PortConfig 4
  meters : Vector MeterItems 4
  meshes : Vector (Option Mesh) 8
  views : Vector (Option View) 16
  table : Vector (Option EntryConfig) 16
  defaultView : Fin 16
  signals : SignalConfig
  outputEnable : Bool
  timing : Timing
  enableMask : BitVec 32
deriving DecidableEq, Repr

/-! ### The factory configuration (R165) -/

/-- Black, mid-grey and the like, by channel values. -/
def rgb (r g b : Nat) : Pixel := ⟨BitVec.ofNat 8 r, BitVec.ofNat 8 g, BitVec.ofNat 8 b⟩

/-- Factory port items (R3). -/
def factoryPortItems : PortItems where
  word0 := 0x3C5
  word1 := 0x0B6
  word2 := 0x2D1
  word3 := 0x16A
  width := 1280
  height := 960
  period := 333
  damageLimit := 16
  runLimit := 4
  minWindow := 4
  rateWindow := 10
  lostLimit := 1000

/-- Factory metering items (R44). -/
def factoryMeterItems : MeterItems where
  winX := 0
  winY := 0
  winW := 1280
  winH := 960
  gainMin := 64
  gainMax := 255
  target := 112
  slew := 8
  deadBand := 2
  clarityThreshold := 12
  interval := 15
  darkLimit := 20
  gate := .moving
  clearMax := 12
  obscuredMin := 30

/-- The factory view 0 (R93). -/
def factoryView : View where
  tiles := [⟨1, 0, 0, 1280, 800, .linear 0 0 1280 960, true, rgb 0 0 0⟩]
  overlays := []

/-- The factory items of the signal Sn (R128). -/
def factorySignal (n : Fin 16) : SignalItems :=
  if h : n.val < 6 then ⟨.wire ⟨n.val, h⟩, .hold, 500⟩
  else if n.val < 14 then ⟨.message, .hold, 500⟩
  else if n.val = 14 then ⟨.speed 5 3, .setTrue, 500⟩
  else ⟨.speed 30 25, .setTrue, 500⟩

/-- The factory signal configuration (R128): moving signal S14, wake set W0, W1, W3. -/
def factorySignals : SignalConfig where
  signals := tabulate factorySignal
  wires := Vector.replicate 6 ⟨.activeHigh, 20⟩
  speedTimeout := 500
  moving := 14
  wakeSet := 0b001011#6

/-- The factory enable mask: every item except VIEW_CHANGED, item 22 (R159, R165). -/
def factoryEnableMask : BitVec 32 := 0xFFBFFFFF#32

/-- The factory configuration (R165). -/
def factoryProfile : Profile where
  ports := Vector.replicate 4 ⟨true, factoryPortItems⟩
  meters := Vector.replicate 4 factoryMeterItems
  meshes := Vector.replicate 8 none
  views := (Vector.replicate 16 none).set 0 (some factoryView)
  table := Vector.replicate 16 none
  defaultView := 0
  signals := factorySignals
  outputEnable := true
  timing := .t3
  enableMask := factoryEnableMask

/-! ### Free values -/

/-- The 16-bit check code computed over a profile (R162). The manual does not give the computation (assumption 5). -/
opaque Config.profileCheck : Profile → BitVec 16

/-- How many pixels of the frame in progress have been drawn when a withdrawal reaches the composer (R101, R103), read
at the state's counter of free values. The manual does not give the composer's speed (assumption 4). -/
opaque Config.drawnPixels : Nat → Nat

/-- Which of several timers that are due at one instant is taken first (chapter 1 to 10, "either may be taken first"),
read at the state's counter of free values (assumption 3). -/
opaque Config.firstDue : Nat → Nat

/-- The hardware revision less one: IDENTIFY reports 1..255 (R176, assumption 6). -/
opaque Config.revisionLessOne : Fin 255

end Sys2Proof
end

