-- ==== Sys2Proof/Machine/State.lean ====
section
/-! DEFINITION. Machine/State.lean: everything the manual gives the part to hold, block by block (chapter 2.1 of
spec/00_scope.md), the reasons a step can stop, and the state after power-on reset.

Times are the model's own instants: `clock` counts units of 1/300 ms since power-on, the coarsest unit in which every
instant of the manual is whole (the 0.01 ms of R38 and the 16 2/3 ms of R115); the 32-bit millisecond time base is
computed from it (assumption 2). A timer is `some` instant at which it expires, or `none` while it is stopped. -/
namespace Sys2Proof.Machine

/-- A timer: the instant at which it expires, or stopped. -/
abbrev Timer := Option Nat

/-! ### Camera port (chapter 1) -/

/-- Link states (chapter 1.2.2). -/
inductive LinkState where
  | disabled
  | down
  | training
  | locked
  | failed
deriving DecidableEq, Repr

/-- A pass map entry (chapter 1.3.1). -/
inductive PhaseResult where
  | pass
  | fail
  | notTried
deriving DecidableEq, Repr

/-- The training record (chapter 1.3.1). -/
structure TrainingRecord where
  passMap : Vector PhaseResult 32
  windowStart : Option Nat
  windowWidth : Nat
  chosenPhase : Option Nat
  attempts : Nat
deriving DecidableEq, Repr

/-- The eight counters of a camera port (R18). -/
structure PortCounters where
  accepted : Nat
  rejected : Nat
  truncated : Nat
  dropped : Nat
  linesRepaired : Nat
  lineErrors : Nat
  trainings : Nat
  trainingFailures : Nat
deriving DecidableEq, Repr

/-- A camera port (chapter 1). `carrier` is the level of the carrier detect input (R2). `linkPower` and `wasEnabled` are
the power of the link and the record of standby entry (R22). `phase` is the sampling phase and `words` are the words
taken at the phase under test (R10). The back-channel level is computed from `link` (`alignRequest`). -/
structure Port where
  config : PortConfig
  link : LinkState
  carrier : Bool
  linkPower : Bool
  wasEnabled : Bool
  record : TrainingRecord
  phase : Nat
  words : List (BitVec 10)
  wordTimer : Timer
  frameOpen : Bool
  expectedLine : Nat
  rejections : Nat
  counters : PortCounters
deriving DecidableEq, Repr

/-! ### Frame ring (chapter 2) -/

/-- The repair record of a frame (R16, R25). -/
structure RepairRecord where
  damaged : Nat
  run : Nat
  longest : Nat
  lines : List Nat
deriving DecidableEq, Repr

/-- A frame record (R25); sequence and arrival time (in milliseconds of the time base) are absent while FILLING. -/
structure FrameRecord where
  sequence : Option Nat
  number : Byte
  arrival : Option Nat
  repair : RepairRecord
deriving DecidableEq, Repr

/-- A frame: its record and its rows of pixels, line 0 first. While a frame fills, row i is written at line i, so the
rows held are rows 0 to e - 1 for the expected line e (R14). -/
structure Frame where
  record : FrameRecord
  rows : List (List Pixel)
deriving DecidableEq, Repr

/-- A slot of a frame ring (R24). -/
inductive Slot where
  | free
  | filling (f : Frame)
  | ready (f : Frame)
  | showing (f : Frame)
deriving DecidableEq, Repr

/-- Picture states (chapter 2.4.1). -/
inductive Picture where
  | absent
  | fresh
  | stale
  | lost
deriving DecidableEq, Repr

/-- A frame ring (chapter 2). `prevStart` is the time of the previous FRAME_START in 0.01 ms units, `intervals` the
interval list in 0.1 ms units, oldest first (R38). The estimate, the rate check and the stale limit are computed from
them (R40, R41). -/
structure Ring where
  slots : Vector Slot 3
  acceptCount : Nat
  picture : Picture
  staleTimer : Timer
  lostTimer : Timer
  prevStart : Option Nat
  intervals : List Nat
deriving DecidableEq, Repr

/-! ### Metering unit (chapter 3) -/

/-- Verdicts of an assessment (R54). -/
inductive Verdict where
  | clear
  | degraded
  | obscured
deriving DecidableEq, Repr

/-- Clarity conditions (R55). -/
inductive Clarity where
  | unassessed
  | clear
  | degraded
  | obscured
deriving DecidableEq, Repr

/-- A metering unit (chapter 3): configuration, gain, interval count and clarity history, newest first. The clarity
condition is computed from the history (R55). -/
structure Meter where
  config : MeterItems
  gain : Nat
  intervalCount : Nat
  history : List Verdict
deriving DecidableEq, Repr

/-- One camera: its port, its ring and its metering unit. -/
structure Cam where
  port : Port
  ring : Ring
  meter : Meter
deriving DecidableEq, Repr

/-! ### Mesh store (chapter 4) -/

/-- A mesh slot (R60). A LOADING slot holds the rows received so far. -/
inductive MeshSlot where
  | free
  | loading (cols rows : Nat) (held : List (List Node))
  | ready (m : Mesh)
deriving DecidableEq, Repr

/-- The upload in progress (R63). -/
structure Upload where
  slot : Fin 8
  nextRow : Nat
  deadline : Nat
deriving DecidableEq, Repr

/-- The mesh store: eight slots and the upload context. The node charge is computed from the slots (R61). -/
structure MeshStore where
  slots : Vector MeshSlot 8
  upload : Option Upload
deriving DecidableEq, Repr

/-! ### View selector (chapter 9) -/

/-- Entry states (R142, R144). A RELEASING entry has the starting value R of its timer; the timer is `some` instant
while it runs and `none` while it is held at R. -/
inductive EntryState where
  | idle
  | held
  | releasing (start : Nat) (timer : Option Nat)
deriving DecidableEq, Repr

/-- A non-empty selection entry: its fields and its state (R141). -/
structure Entry where
  config : EntryConfig
  state : EntryState
deriving DecidableEq, Repr

/-- The items that can be chosen (R146). -/
inductive Choice where
  | entry (i : Fin 16)
  | override
  | default
deriving DecidableEq, Repr

/-- An installed override (R152): duration 0 means until cancelled, and then no timer runs. -/
structure Override where
  view : Fin 16
  rank : Nat
  duration : Nat
  timer : Timer
deriving DecidableEq, Repr

/-- The view selector (chapter 9). `activation` is in milliseconds of the time base. -/
structure Selector where
  entries : Vector (Option Entry) 16
  override : Option Override
  defaultView : Fin 16
  active : Choice
  activation : Nat
  selected : Fin 16
deriving DecidableEq, Repr

/-! ### Signal unit (chapter 8) -/

/-- Freshness of a signal (R127); a WIRE signal has none. -/
inductive Freshness where
  | none
  | fresh
  | stale
deriving DecidableEq, Repr

/-- The running part of a signal record (R127). -/
structure SignalRecord where
  value : Bool
  freshness : Freshness
  timer : Timer
deriving DecidableEq, Repr

/-- A debouncer (R129): true is high. `lastChange` is the instant of the last raw change (R130). -/
structure Debouncer where
  raw : Bool
  accepted : Bool
  timer : Timer
  lastChange : Nat
deriving DecidableEq, Repr

/-- The signal unit (chapter 8): configuration, signal records, debouncers, the speed, and whether the part is in
STANDBY. -/
structure SignalUnit where
  config : SignalConfig
  signals : Vector SignalRecord 16
  wires : Vector Debouncer 6
  speed : Option Nat
  speedFresh : Bool
  speedTimer : Timer
  standby : Bool
deriving DecidableEq, Repr

/-! ### Composer (chapter 6) -/

/-- What the composer draws a tile's mesh from (R98): a LINEAR tile takes no decision. -/
inductive MeshDecision where
  | linear
  | mesh (nodes : List (List Node))
  | fault
deriving DecidableEq, Repr

/-- A tile of the latched view with its mesh decision. -/
structure LatchedTile where
  tile : Tile
  decision : MeshDecision
deriving DecidableEq, Repr

/-- What the composer latches for a camera used by the view (R95), with the rows of the slot it refers to (none after an
empty claim). `withdrawnAt` is the number of pixels drawn before the slot was withdrawn (R101). -/
structure LatchedCamera where
  rows : Option (List (List Pixel))
  gain : Nat
  picture : Picture
  clarity : Clarity
  width : Nat
  height : Nat
  withdrawnAt : Option Nat
deriving DecidableEq, Repr

/-- An output frame of the composer, as plain data: all that decides each of its pixels (R95, R101, R103 to R112). -/
structure ComposedFrame where
  areaW : Nat
  areaH : Nat
  tiles : List LatchedTile
  overlays : List Prim
  slowVisible : Bool
  fastVisible : Bool
  signals : Vector Bool 16
  cams : Vector (Option LatchedCamera) 4
  meshWithdrawnAt : Option Nat
deriving DecidableEq, Repr

/-- The latched context (R95). `isLatchedView` is false from a profile load to the next output frame start (R79).
`slotRefs` are the slot references, `time` the time base value at the output frame start, and `drawn` a number of pixels
known to have been drawn (only a withdrawal asks for it). -/
structure Context where
  viewNumber : Fin 16
  isLatchedView : Bool
  time : Nat
  slotRefs : Vector (Option (Fin 3)) 4
  frame : ComposedFrame
  drawn : Nat
deriving DecidableEq, Repr

/-- The composer (chapter 6). -/
structure Composer where
  context : Option Context
  previousView : Option (Fin 16)
  tileFault : Bool
  framesComposed : Nat
  repeats : Nat
deriving DecidableEq, Repr

/-! ### Display output (chapter 7) -/

/-- Output states (chapter 7). -/
inductive OutputState where
  | off
  | starting
  | running
  | hold
  | stopping
deriving DecidableEq, Repr

/-- The frame the display output is sending (R116): none in OFF, a black frame, the frame the composer draws, or a
repeat frame of HOLD. -/
inductive Sending where
  | nothing
  | black
  | composed
  | repeatFrame
deriving DecidableEq, Repr

/-- What fills the active area of the monitor (R116): a black frame or a repeat frame of a timing (R121), or a composed frame. -/
inductive Screen where
  | black (timing : Timing)
  | composed (frame : ComposedFrame)
  | repeated (held : Option ComposedFrame) (timing : Timing)
deriving DecidableEq, Repr

/-- The display output (chapter 7). `stopToStarting` is the stop target: STARTING when true, OFF when false. `heldPicture`
is the last frame sent in RUNNING since the latest entry into STARTING, none for black (R121). `shown` is the picture that the
latest entry into OFF left on the monitor, which stays there until the next entry into STARTING; it is read in OFF only
(R116). `nextStart` is the instant of the next output frame start (R116). -/
structure Display where
  state : OutputState
  enable : Bool
  current : Timing
  staged : Option Timing
  holdPending : Bool
  stopToStarting : Bool
  settleTimer : Timer
  holdTimer : Timer
  nextStart : Timer
  sending : Sending
  heldPicture : Option ComposedFrame
  shown : Option Screen
  framesShown : Nat
  framesRepeated : Nat
deriving DecidableEq, Repr

/-! ### Status unit (chapter 10) -/

/-- Error codes of the queue (chapter 10.3). -/
inductive ErrorCode where
  | noError
  | linkCheck
  | linkFraming
  | linkGap
  | linkCollision
  | meshSequence
  | meshAbandoned
  | profileFault
  | queueOverflow
deriving DecidableEq, Repr

/-- An entry of the error queue (R160): the time is taken modulo 65536. -/
structure ErrorEntry where
  code : ErrorCode
  detail : Nat
  time : Nat
deriving DecidableEq, Repr

/-- The status unit (chapter 10): bit n of each set stands for status item n (R174). -/
structure Status where
  conditions : BitVec 32
  events : BitVec 32
  enable : BitVec 32
  attn : Bool
  errors : List ErrorEntry
deriving DecidableEq, Repr

/-! ### Profile store (chapter 10.4) -/

/-- A profile slot (R162): a VALID slot holds a profile and the check code written with it. -/
inductive ProfileSlot where
  | empty
  | valid (p : Profile) (check : BitVec 16)
  | invalid
deriving DecidableEq, Repr

/-- A save in progress (R163): the slot being written and the snapshot. -/
structure Save where
  slot : Fin 4
  snapshot : Profile
deriving DecidableEq, Repr

/-- The profile store. -/
structure ProfileStore where
  slots : Vector ProfileSlot 4
  save : Option Save
deriving DecidableEq, Repr

/-! ### Replies (chapter 11.3) -/

/-- Result codes (R171). -/
inductive ResultCode where
  | ok
  | unknownType
  | badLength
  | badValue
  | notFound
  | inUse
  | noSpace
  | busy
  | wrongState
  | notWhileMoving
  | sequence
deriving DecidableEq, Repr

/-- The six counters of the control link port (R177). -/
structure LinkCounters where
  framesReceived : Nat
  framesDiscarded : Nat
  repliesSent : Nat
  repliesDropped : Nat
  noticesSent : Nat
  noticesDropped : Nat
deriving DecidableEq, Repr

/-- The result data of IDENTIFY (R176). -/
structure IdentifyData where
  family : Nat
  member : Nat
  revision : Nat
  rate : Fin 4
  ports : Nat
  time : Nat
  counters : LinkCounters
deriving DecidableEq, Repr

/-- The result data of READ_CAMERA_REPORT (R19). -/
structure CameraReport where
  link : LinkState
  carrier : Bool
  record : TrainingRecord
  frameOpen : Bool
  expectedLine : Nat
  rejections : Nat
  counters : PortCounters
  picture : Picture
  periodEstimate : Nat
  newest : Option FrameRecord
  gain : Nat
  clarity : Clarity
deriving DecidableEq, Repr

/-- The override as READ_SELECTION reports it (R154): the remaining time is none when the duration is 0. -/
structure OverrideReport where
  view : Fin 16
  rank : Nat
  duration : Nat
  remaining : Option Nat
deriving DecidableEq, Repr

/-- The items the display output supplies with its replies (R124). -/
structure OutputReport where
  state : OutputState
  current : Timing
  staged : Option Timing
  holdPending : Bool
deriving DecidableEq, Repr

/-- The SUMMARY part of READ_SELECTION (R154). -/
structure SelectionSummary where
  defaultView : Fin 16
  override : Option OverrideReport
  active : Choice
  activation : Nat
  selected : Fin 16
  latchedView : Option (Fin 16)
  tileFault : Bool
  framesComposed : Nat
  repeats : Nat
  output : OutputReport
  outputEnable : Bool
  framesShown : Nat
  framesRepeated : Nat
deriving DecidableEq, Repr

/-- One entry of the ENTRIES part of READ_SELECTION (R154): `none` is an empty entry; for a RELEASING entry the time
remaining stands beside its state. -/
structure EntryReport where
  config : EntryConfig
  state : EntryState
  remaining : Option Nat
deriving DecidableEq, Repr

/-- One signal of READ_SIGNALS (R137). -/
structure SignalReport where
  items : SignalItems
  value : Bool
  freshness : Freshness
deriving DecidableEq, Repr

/-- One wired input of READ_SIGNALS (R137). -/
structure WireReport where
  items : WireItems
  raw : Bool
  accepted : Bool
  active : Bool
deriving DecidableEq, Repr

/-- The result data of READ_SIGNALS (R137). -/
structure SignalsReport where
  signals : Vector SignalReport 16
  wires : Vector WireReport 6
  speed : Option Nat
  speedFresh : Bool
  speedTimeout : Nat
  moving : Fin 16
  movingValue : Bool
  wakeSet : BitVec 6
  anyStale : Bool
deriving DecidableEq, Repr

/-- The state of a profile slot as READ_CONDITIONS reports it (R158). -/
inductive SlotState where
  | empty
  | valid
  | invalid
deriving DecidableEq, Repr

/-- The result data of READ_CONDITIONS (R158). -/
structure ConditionsReport where
  conditions : BitVec 32
  events : BitVec 32
  enable : BitVec 32
  slots : Vector SlotState 4
  saving : Option (Fin 4)
deriving DecidableEq, Repr

/-- The result data of a reply, as the owning chapter lists it. -/
inductive ReplyData where
  | nothing
  | identify (d : IdentifyData)
  | camera (d : CameraReport)
  | freeNodes (n : Nat)
  | nextRow (n : Nat)
  | overlaySize (count cost : Nat)
  | viewUndefined
  | viewTiles (tiles : List Tile) (count cost : Nat)
  | viewOverlays (count cost : Nat) (prims : List Prim)
  | selection (d : SelectionSummary)
  | entries (d : List (Option EntryReport))
  | signals (d : SignalsReport)
  | output (d : OutputReport)
  | conditions (d : ConditionsReport)
  | events (set : BitVec 32)
  | error (code : ErrorCode) (detail time left : Nat)
deriving DecidableEq, Repr

/-! ### Control link port (chapter 11) -/

/-- A reply owed (R170): the reply's TYPE and TAG, the result code, the result data, and the instant at which it became
owed. -/
structure Reply where
  type : Byte
  tag : Byte
  code : ResultCode
  data : ReplyData
  owedAt : Nat
deriving DecidableEq, Repr

/-- The payload of a STATUS_NOTICE (R172, R174). -/
structure Notice where
  conditions : BitVec 32
  events : BitVec 32
  time : Nat
deriving DecidableEq, Repr

/-- The transmitter: idle, sending the owed reply, or sending a notice. -/
inductive Transmitter where
  | idle
  | reply
  | notice (payload : Notice)
deriving DecidableEq, Repr

/-- Receiver states (R169). -/
inductive RxState where
  | hunt
  | length
  | body
  | check
deriving DecidableEq, Repr

/-- The receiver (R169): its state, the bytes of the frame being received, START first, and the gap timer. -/
structure Receiver where
  state : RxState
  bytes : List Byte
  gapTimer : Timer
deriving DecidableEq, Repr

/-- The control link port (chapter 11). `rate` is 0..3 in the order of R167; `lastStop` is the end of the last stop bit
on the line (R172). -/
structure LinkPort where
  rate : Fin 4
  rx : Receiver
  owed : Option Reply
  noticePending : Bool
  tx : Transmitter
  lastStop : Nat
  counters : LinkCounters
deriving DecidableEq, Repr

/-! ### The whole part -/

/-- The part. `powered` is the supply, `clock` the instant, `freeCount` the model's own counter at which the free values
of Config are read, and `pending` the queue of commands, first in, first out. -/
structure State where
  powered : Bool
  clock : Nat
  cams : Vector Cam 4
  mesh : MeshStore
  views : Vector (Option View) 16
  sel : Selector
  sig : SignalUnit
  comp : Composer
  disp : Display
  sts : Status
  prf : ProfileStore
  link : LinkPort
  freeCount : Nat
  pending : List Instr
deriving DecidableEq, Repr

/-! ### Reasons to stop -/

/-- Why a step stops with a fault. Both are raised only in states no run reaches; both are safe: the model stops where
the manual says that the case does not arise. -/
inductive Fault where
  /-- FRAME_START (R26) finds no FREE slot in the ring; by R24 one always exists. Safe. -/
  | noFreeSlot
  /-- An output frame start (R96) finds the selected view undefined; by R79 it never is. Safe. -/
  | selectedViewUndefined
deriving DecidableEq, Repr

/-- Why a step refuses a command. -/
inductive Refusal where
  /-- The command has no meaning in the model: raised by no arm of `exec`. Safe. -/
  | notModelled (mnemonic : String)
deriving DecidableEq, Repr

/-! ### The state after power-on reset

The profile slots are EMPTY, so the part starts from the factory configuration (R165). The pins are the surroundings':
straps low, wired inputs low, no carrier (assumption 7). The clock is 0 (chapter 4.1). -/

/-- A training record before any sweep (R20). -/
def blankRecord : TrainingRecord := ⟨Vector.replicate 32 .notTried, none, 0, none, 0⟩

/-- A port after power-on reset from the factory configuration, without carrier (R20). -/
def resetPort : Port where
  config := ⟨true, factoryPortItems⟩
  link := .down
  carrier := false
  linkPower := true
  wasEnabled := false
  record := blankRecord
  phase := 0
  words := []
  wordTimer := none
  frameOpen := false
  expectedLine := 0
  rejections := 0
  counters := ⟨0, 0, 0, 0, 0, 0, 0, 0⟩

/-- A camera after power-on reset from the factory configuration, without carrier (R20, R43, R59): the lost deadline runs
for 1000 ms. -/
def resetCam : Cam where
  port := resetPort
  ring := ⟨Vector.replicate 3 .free, 0, .absent, none, some 300000, none, []⟩
  meter := ⟨factoryMeterItems, 128, 0, []⟩

/-- A signal record after reset from the factory map with every wired input low (R140). -/
def resetSignal (n : Fin 16) : SignalRecord :=
  if n.val < 6 then ⟨false, .none, none⟩
  else if n.val < 14 then ⟨false, .stale, none⟩
  else ⟨true, .stale, none⟩

/-- The part right after power-on reset with the factory configuration. -/
def State.reset : State where
  powered := true
  clock := 0
  cams := Vector.replicate 4 resetCam
  mesh := ⟨Vector.replicate 8 .free, none⟩
  views := factoryProfile.views
  sel := ⟨Vector.replicate 16 none, none, 0, .default, 0, 0⟩
  sig := ⟨factorySignals, tabulate resetSignal, Vector.replicate 6 ⟨false, false, none, 0⟩, none, false, none, false⟩
  comp := ⟨none, none, false, 0, 0⟩
  disp := ⟨.starting, true, .t3, none, false, false, some 60000, none, some 5000, .black, none, none, 0, 0⟩
  sts := ⟨0x00100000#32, 0x80000000#32, factoryEnableMask, true, []⟩
  prf := ⟨Vector.replicate 4 .empty, none⟩
  link := ⟨0, ⟨.hunt, [], none⟩, none, true, .idle, 0, ⟨0, 0, 0, 0, 0, 0⟩⟩
  freeCount := 0
  pending := []

end Sys2Proof.Machine
end

