-- ==== Sys2Proof/Machine/Ops.lean ====
section
/-! DEFINITION. Machine/Ops.lean: the operations every block shares: arithmetic of chapter 4.2, the time base and timers
(chapter 4.1), the 16-bit cyclic check (R1, R168), reading and writing one camera, and the outcome of an event. -/
namespace Sys2Proof.Machine

/-! ### Arithmetic (spec/00_scope.md 4.2, 4.8) -/

/-- clamp(x, lo, hi) = max(lo, min(x, hi)) (chapter 4.2). -/
def clampNat (x lo hi : Nat) : Nat := max lo (min x hi)

/-- clamp(x, lo, hi) on integers (chapter 4.2). -/
def clampInt (x lo hi : Int) : Int := max lo (min x hi)

/-- The greatest value of a statistics counter (chapter 4.8). -/
def counterMax : Nat := 4294967295

/-- A 32-bit counter advanced by one, saturating (chapter 4.8). -/
def bump (n : Nat) : Nat := min (n + 1) counterMax

/-- Every fourth element of a list, beginning with its first (R46). -/
def everyFourth {α : Type} : List α → List α
  | a :: _ :: _ :: _ :: rest => a :: everyFourth rest
  | a :: _ => [a]
  | [] => []

/-- The entry of a fixed table at a number that may lie outside it. -/
def tableGet? {α : Type} {n : Nat} (v : Vector α n) (i : Nat) : Option α :=
  if h : i < n then some v[i] else none

/-! ### Time (spec/00_scope.md 4.1, assumption 2) -/

/-- Instants per millisecond. -/
def instantsPerMs : Nat := 300

/-- The number of instants in `ms` milliseconds. -/
def millis (ms : Nat) : Nat := instantsPerMs * ms

/-- The 32-bit millisecond time base (chapter 4.1). -/
def State.timeBase (s : State) : Nat := s.clock / instantsPerMs % 4294967296

/-- The time noted for a FRAME_START, to 0.01 ms (R38). DESIGN CHOICE: the last whole 0.01 ms that has passed; the manual does
not say whether the arrival is cut off or rounded to the nearest (assumption 33). -/
def State.hundredths (s : State) : Nat := s.clock / 3

/-- An instant that has come: time never runs back. -/
def State.atInstant (s : State) (t : Timer) : State := { s with clock := max s.clock (t.getD s.clock) }

/-- A timer that has reached its instant. -/
def isDue (t : Timer) (now : Nat) : Bool :=
  match t with
  | some d => d ≤ now
  | none => false

/-- Whole milliseconds left of a timer, or none when it is stopped (R154). DESIGN CHOICE: a part of a millisecond counts as
a whole one; the manual does not say how the remaining time is rounded (assumption 34). -/
def msLeft (t : Timer) (now : Nat) : Option Nat := t.map fun d => (d - now + 299) / instantsPerMs

/-! ### The cyclic check (R1, R168) -/

/-- One bit of the check register: generator polynomial 0x1021. -/
def crcBit (r : BitVec 16) : BitVec 16 :=
  if r.msb then (r <<< 1) ^^^ 0x1021#16 else r <<< 1

/-- One byte enters the check register, most significant bit first. -/
def crcByte (r : BitVec 16) (b : Byte) : BitVec 16 :=
  let x := r ^^^ (b.zeroExtend 16 <<< 8)
  crcBit (crcBit (crcBit (crcBit (crcBit (crcBit (crcBit (crcBit x)))))))

/-- The check over a list of bytes: the register starts at 0xFFFF and the final value is not inverted. -/
def crc16 (bytes : List Byte) : BitVec 16 := bytes.foldl crcByte 0xFFFF#16

/-- The high and the low byte of a 16-bit value. -/
def bytesOfWord (w : BitVec 16) : List Byte := [(w >>> 8).truncate 8, w.truncate 8]

/-- The four bytes of a 32-bit value, high byte first (chapter 4.7). -/
def bytesOfLong (w : BitVec 32) : List Byte :=
  [(w >>> 24).truncate 8, (w >>> 16).truncate 8, (w >>> 8).truncate 8, w.truncate 8]

/-! ### One camera -/

/-- The state with camera `i` replaced. -/
def State.setCam (s : State) (i : Fin 4) (c : Cam) : State := { s with cams := s.cams.set i c }

/-- The state with camera `i` changed. -/
def State.onCam (s : State) (i : Fin 4) (f : Cam → Cam) : State := s.setCam i (f s.cams[i])

/-- The value of a signal by number: false for a number outside S0..S15, which no accepted configuration holds. -/
def SignalUnit.valueAt (u : SignalUnit) (n : Nat) : Bool := ((tableGet? u.signals n).map SignalRecord.value).getD false

/-- The value of the moving signal (chapter 4.9, R135). -/
def SignalUnit.movingValue (u : SignalUnit) : Bool := u.signals[u.config.moving].value

/-- The sixteen signal values. -/
def SignalUnit.values (u : SignalUnit) : Vector Bool 16 := mapTable SignalRecord.value u.signals

/-! ### What an owner answers to a request (R170 step 4) -/

/-- The state after a request's event, its result code and its result data (R170, R171). -/
structure Answer where
  state : State
  code : ResultCode
  data : ReplyData
deriving DecidableEq, Repr

/-- A refusal: the result code alone, and nothing changed (R171). -/
def refuse (s : State) (code : ResultCode) : Answer := ⟨s, code, .nothing⟩

/-- An acceptance with its result data. -/
def accept (s : State) (data : ReplyData) : Answer := ⟨s, .ok, data⟩

end Sys2Proof.Machine
end

