-- ==== Sys2Proof/Machine/Flags.lean ====
section
/-! DEFINITION. Machine/Flags.lean: the status unit (chapter 10): the condition set as the owners' states give it, the
event set, ATTN, the notice request, the pulses and the error queue. Every event ends in `settle`, which takes the
conditions from their owners, latches what became true, recomputes ATTN and requests a notice when ATTN rises. -/
namespace Sys2Proof.Machine

/-! ### What the owners report -/

/-- The slot states a report can name: the frame of the READY slot if there is one. -/
def Ring.readyFrame (r : Ring) : Option Frame :=
  r.slots.toList.findSome? fun x => match x with | .ready f => some f | _ => none

/-- The frame of the SHOWING slot if there is one. -/
def Ring.showingFrame (r : Ring) : Option Frame :=
  r.slots.toList.findSome? fun x => match x with | .showing f => some f | _ => none

/-- The frame of the FILLING slot if there is one. -/
def Ring.fillingFrame (r : Ring) : Option Frame :=
  r.slots.toList.findSome? fun x => match x with | .filling f => some f | _ => none

/-- The newest accepted frame the ring holds: READY, otherwise SHOWING (R15, R19). -/
def Ring.newestFrame (r : Ring) : Option Frame :=
  match r.readyFrame with
  | some f => some f
  | none => r.showingFrame

/-- The period estimate E in 0.1 ms units (R40). -/
def Ring.estimate (r : Ring) (nominal : Nat) : Nat :=
  if r.intervals.length = 8 then (r.intervals.sum + 4) / 8 else nominal

/-- The rate check (R40): with 8 intervals held, 100 * |E - N| > w * N. -/
def Ring.rateOut (r : Ring) (p : PortItems) : Bool :=
  decide (r.intervals.length = 8) &&
  decide (100 * ((r.estimate p.period : Int) - (p.period : Int)).natAbs > p.rateWindow * p.period)

/-- The stale limit in milliseconds (R41). -/
def Ring.staleLimit (r : Ring) (nominal : Nat) : Nat := clampNat ((3 * r.estimate nominal + 5) / 10) 50 500

/-- The clarity condition that follows from the history (R55). -/
def clarityOf : List Verdict → Clarity
  | [a, b, c] =>
    let most : Option Verdict := if a = b ∨ a = c then some a else if b = c then some b else none
    match most with
    | some .clear => .clear
    | some .degraded => .degraded
    | some .obscured => .obscured
    | none => .degraded
  | _ => .unassessed

/-- The clarity condition of a metering unit (R55). -/
def Meter.clarity (m : Meter) : Clarity := clarityOf m.history

/-- SIGNAL_STALE: at least one signal is STALE (R134). -/
def SignalUnit.anyStale (u : SignalUnit) : Bool := u.signals.toList.any fun r => r.freshness == .stale

/-! ### Status items (R156) -/

/-- Item numbers of the pulses (R156). -/
def itemViewChanged : Nat := 22
def itemOverrideEnded : Nat := 23
def itemProfileSaved : Nat := 25
def itemProfileFault : Nat := 26
def itemMeshAbandoned : Nat := 27
def itemWoke : Nat := 30
def itemRestarted : Nat := 31

/-- A camera's value of the k-th of its five conditions: CAMn_LOST, CAMn_STALE, CAMn_OBSCURED, CAMn_LINK_FAILED and
CAMn_RATE_OUT (R37, R56, R12, R156). -/
def Cam.condition (c : Cam) : Nat → Bool
  | 0 => c.ring.picture == .lost
  | 1 => c.ring.picture == .stale
  | 2 => c.meter.clarity == .obscured
  | 3 => c.port.link == .failed
  | _ => c.ring.rateOut c.port.config.items

/-- The value of status item n as its owner's state gives it; false for every pulse (R156). -/
def State.conditionItem (s : State) (n : Fin 32) : Bool :=
  if n.val < 20 then s.cams[n.val % 4].condition (n.val / 4)
  else if n.val = 20 then s.sig.anyStale
  else if n.val = 21 then s.disp.state == .hold
  else if n.val = 24 then s.prf.save.isSome
  else if n.val = 28 then s.comp.tileFault
  else if n.val = 29 then !s.sts.errors.isEmpty
  else false

/-- The condition set that the owners' states give (R156). -/
def State.conditionsNow (s : State) : BitVec 32 := BitVec.ofFnLE s.conditionItem

/-- The set that holds item n alone. -/
def itemBit (n : Nat) : BitVec 32 := 1#32 <<< n

/-- ATTN is asserted exactly while some event is both latched and enabled (R157). -/
def attnOf (events enable : BitVec 32) : Bool := (events &&& enable) != 0#32

/-- ATTN recomputed, with the request for a notice when it changes from released to asserted (R157). -/
def State.recomputeAttn (s : State) : State :=
  let attn := attnOf s.sts.events s.sts.enable
  { s with
    sts := { s.sts with attn := attn }
    link := { s.link with noticePending := s.link.noticePending || (attn && !s.sts.attn) } }

/-- The end of an event for the status unit: the conditions take their owners' values, every item that became true
latches its event (R156), and ATTN is recomputed (R157). -/
def State.settle (s : State) : State :=
  State.recomputeAttn { s with sts := { s.sts with
    conditions := s.conditionsNow
    events := s.sts.events ||| (s.conditionsNow &&& ~~~s.sts.conditions) } }

/-- A pulse: its item's event is latched (R156). ATTN follows at the end of the event. -/
def State.pulse (s : State) (item : Nat) : State :=
  { s with sts := { s.sts with events := s.sts.events ||| itemBit item } }

/-! ### The error queue (R160) -/

/-- The queue after an error is handed to it, by how full it is (R160). -/
def pushError (queue : List ErrorEntry) (e : ErrorEntry) : List ErrorEntry :=
  if queue.length < 16 then queue ++ [e]
  else match queue.getLast? with
    | some newest =>
      if newest.code = .queueOverflow then
        queue.dropLast ++ [{ newest with detail := min (newest.detail + 1) 255 }]
      else queue.dropLast ++ [⟨.queueOverflow, 2, e.time⟩]
    | none => queue ++ [e]

/-- A block hands the status unit an error at the present time (R160). -/
def State.queueError (s : State) (code : ErrorCode) (detail : Nat) : State :=
  { s with sts := { s.sts with errors := pushError s.sts.errors ⟨code, detail, s.timeBase % 65536⟩ } }

/-! ### The outcome of an event -/

/-- An event of the powered part: if it occurs (`occurs`), its effect and then the status unit's end of the event; an
event that does not occur, or reaches a part without power, changes nothing. -/
def event (s : State) (occurs : Bool) (effect : State → State) : Host.Outcome State Fault Refusal :=
  if s.powered && occurs then .next (effect s).settle else .next s

end Sys2Proof.Machine
end

