-- ==== Sys2Proof/Machine/Operands.lean ====
section
/-! DEFINITION. Machine/Operands.lean: the range tests of the requests' fields, the values a request's fields are taken
as (clamped, rounded), and the records they become. A function that answers `none` is the owner's BAD_VALUE. -/
namespace Sys2Proof
open Sys2Proof.Machine

/-- low..high, both ends included (chapter 4.2). -/
def within (x lo hi : Nat) : Bool := decide (lo ≤ x) && decide (x ≤ hi)

/-- low..high for signed values. -/
def withinInt (x lo hi : Int) : Bool := decide (lo ≤ x) && decide (x ≤ hi)

/-- A number as an index below `n`, or none. -/
def asIndex (n i : Nat) : Option (Fin n) := if h : i < n then some ⟨i, h⟩ else none

/-! ### Camera port (R3, R4) -/

/-- The four training words are all different (R3, R4). -/
def PortItems.wordsDiffer (p : PortItems) : Bool :=
  p.word0 != p.word1 && p.word0 != p.word2 && p.word0 != p.word3 && p.word1 != p.word2 && p.word1 != p.word3 &&
  p.word2 != p.word3

/-- Every item lies in its range of R3 and the training words differ (R4 step 1). -/
def PortItems.valid (p : PortItems) : Bool :=
  within p.word0 0 1023 && within p.word1 0 1023 && within p.word2 0 1023 && within p.word3 0 1023 &&
  within p.width 320 1280 && decide (p.width % 16 = 0) && within p.height 240 960 && decide (p.height % 8 = 0) &&
  within p.period 100 2000 && within p.damageLimit 0 63 && within p.runLimit 1 16 && within p.minWindow 2 16 &&
  within p.rateWindow 1 50 && within p.lostLimit 600 5000 && p.wordsDiffer

/-- Every restricted item carries the held value (R3, R4 step 2): only the rate window and the lost limit may differ. -/
def PortItems.sameRestricted (p q : PortItems) : Bool :=
  decide ({ p with rateWindow := q.rateWindow, lostLimit := q.lostLimit } = q)

/-! ### Metering (R57) -/

/-- The items with the target clamped into 16..235 (R57 step 2). -/
def MeterItems.clampTarget (m : MeterItems) : MeterItems := { m with target := clampNat m.target 16 235 }

/-- The gate names NONE, MOVING or a signal of S0..S15 (R57). -/
def Gate.valid : Gate → Bool
  | .signal n => within n 0 15
  | _ => true

/-- The tests of R57 step 3 against the camera's configured frame. -/
def MeterItems.valid (m : MeterItems) (frameW frameH : Nat) : Bool :=
  within m.winW 64 1280 && decide (m.winW % 32 = 0) && within m.winH 48 960 && decide (m.winH % 24 = 0) &&
  decide (m.winX + m.winW ≤ frameW) && decide (m.winY + m.winH ≤ frameH) &&
  within m.gainMin 16 255 && within m.gainMax 16 255 && decide (m.gainMin ≤ m.gainMax) &&
  within m.slew 1 64 && within m.deadBand 0 16 && within m.clarityThreshold 1 64 && within m.interval 1 255 &&
  within m.darkLimit 0 128 && m.gate.valid && within m.clearMax 0 47 && within m.obscuredMin 1 48 &&
  decide (m.clearMax < m.obscuredMin)

/-! ### Tiles (R74, R76, R78) -/

/-- The canvas (chapter 4.4). -/
def canvasW : Nat := 1280
def canvasH : Nat := 800

/-- The tile's fields in their ranges of R74 (R76 test 3), as a tile of the table. -/
def TileFields.asTile (t : TileFields) : Option Tile :=
  match asIndex 4 t.camera, t.mapping, t.mirror, within t.w 64 1280 && within t.h 48 800 with
  | some camera, some .linear, some mirror, true =>
    some ⟨camera, t.x, t.y, t.w, t.h, .linear t.sx t.sy t.sw t.sh, mirror, t.fill⟩
  | some camera, some .mesh, some mirror, true =>
    (asIndex 8 t.slot).map fun slot => ⟨camera, t.x, t.y, t.w, t.h, .mesh slot, mirror, t.fill⟩
  | _, _, _, _ => none

/-- The tile lies inside the canvas (R76 test 4). -/
def Tile.insideCanvas (t : Tile) : Bool := decide (t.x + t.w ≤ canvasW) && decide (t.y + t.h ≤ canvasH)

/-- A LINEAR tile's source window fits its camera's configured frame (R76 test 5, R78). -/
def Tile.windowFits (t : Tile) (cams : Vector Cam 4) : Bool :=
  match t.mapping with
  | .linear sx sy sw sh =>
    let p := cams[t.camera].port.config.items
    decide (2 ≤ sw) && decide (2 ≤ sh) && decide (sx + sw ≤ p.width) && decide (sy + sh ≤ p.height)
  | .mesh _ => true

/-- Two tiles share at least one canvas pixel (R76 test 6). -/
def Tile.overlaps (a b : Tile) : Bool :=
  decide (a.x < b.x + b.w) && decide (b.x < a.x + a.w) && decide (a.y < b.y + b.h) && decide (b.y < a.y + a.h)

/-- No two tiles of the list overlap (R76 test 6). -/
def noOverlap : List Tile → Bool
  | [] => true
  | t :: rest => rest.all (fun u => !t.overlaps u) && noOverlap rest

/-- The tiles of a DEFINE_VIEW after tests 2 to 6 of R76, or none at the first test that fails. -/
def tilesOf (fields : List TileFields) (cams : Vector Cam 4) : Option (List Tile) :=
  match within fields.length 1 4, fields.mapM TileFields.asTile with
  | true, some tiles =>
    if tiles.all Tile.insideCanvas && tiles.all (fun t => t.windowFits cams) && noOverlap tiles then some tiles else none
  | _, _ => none

/-! ### Overlay primitives (R83, R84, R86) -/

/-- The geometry's fields lie in their ranges (R84). -/
def Geometry.valid : Geometry → Bool
  | .line x0 y0 x1 y1 b =>
    withinInt x0 (-32768) 32767 && withinInt y0 (-32768) 32767 && withinInt x1 (-32768) 32767 &&
    withinInt y1 (-32768) 32767 && within b 1 8
  | .rect x y w h b =>
    withinInt x (-32768) 32767 && withinInt y (-32768) 32767 && within w 1 32767 && within h 1 32767 && within b 1 8
  | .box x y w h => withinInt x (-32768) 32767 && withinInt y (-32768) 32767 && within w 1 32767 && within h 1 32767
  | .glyph x y g s => withinInt x (-32768) 32767 && withinInt y (-32768) 32767 && within g 0 7 && within s 1 4

/-- The cost of a primitive (R84). -/
def Geometry.cost : Geometry → Nat
  | .line .. => 2
  | .rect .. => 2
  | .box .. => 1
  | .glyph .. => 3

/-- The show-when field with its codes tested (R83). -/
def ShowFields.asShow : ShowFields → Option ShowWhen
  | .always => some .always
  | .onSignal n wanted =>
    match asIndex 16 n, wanted with
    | some signal, some want => some (.onSignal signal want)
    | _, _ => none

/-- A carried primitive as a primitive of the list, alpha clamped to 16 (R83), or none (R86 step 3). -/
def PrimFields.asPrim (p : PrimFields) : Option Prim :=
  match p.geometry, p.blink, p.showWhen.asShow with
  | some g, some blink, some showWhen => if g.valid then some ⟨g, p.colour, min p.alpha 16, blink, showWhen⟩ else none
  | _, _, _ => none

/-- The total cost of an overlay list (R82). -/
def totalCost (prims : List Prim) : Nat := (prims.map fun p => p.geometry.cost).sum

/-- The primitives of an OVERLAY_APPEND after test 3 of R86, or none. -/
def primsOf (fields : List PrimFields) : Option (List Prim) :=
  if within fields.length 1 12 then fields.mapM PrimFields.asPrim else none

/-! ### Selection entries (R141, R149) and the override (R152) -/

/-- A carried term as a term of the table (R149). -/
def TermFields.asTerm (t : TermFields) : Option Term :=
  match asIndex 16 t.signal, t.wanted with
  | some signal, some wanted => some ⟨signal, wanted⟩
  | _, _ => none

/-- The entry that the fields of SET_SELECTION_ENTRY make: tests of R149 step 1 but the index, release clamped (step 2). -/
def EntryFields.asEntry (e : EntryFields) : Option EntryConfig :=
  match within e.terms.length 1 4, e.terms.mapM TermFields.asTerm, asIndex 16 e.view, decide (e.dwell ≤ 10000) with
  | true, some terms, some view, true => some ⟨terms, view, e.dwell, min e.release 60000, e.reload⟩
  | _, _, _, _ => none

/-- The adjusted duration of an override (R152 step 2). -/
def overrideDuration (d : Nat) : Nat := if d = 0 then 0 else clampNat d 100 600000

/-! ### Signal configuration (R136) -/

/-- The debounce time rounded up to a supported value (R136 step 1). -/
def debounceOf (ms : Nat) : Nat :=
  if ms = 0 then 0 else if ms ≤ 10 then 10 else if ms ≤ 20 then 20 else 50

/-- A carried source with its ranges tested (R136 step 2). -/
def SourceFields.asSource : SourceFields → Option Source
  | .wire n => (asIndex 6 n).map Source.wire
  | .message => some .message
  | .speed on off => if on ≤ 250 && off ≤ 250 && off < on then some (.speed on off) else none
  | .unknown => none

/-- The carried items of one signal (R136 step 2). -/
def SignalFields.asItems (f : SignalFields) : Option SignalItems :=
  match f.source.asSource, f.failRule, within f.timeout 50 5000 with
  | some source, some rule, true => some ⟨source, rule, f.timeout⟩
  | _, _, _ => none

/-- The carried items of one wired input (R136 steps 1 and 2). -/
def WireFields.asItems (f : WireFields) : Option WireItems := f.polarity.map fun p => ⟨p, debounceOf f.debounce⟩

/-- A table of options as an option of a table. -/
def allSome {α : Type} {n : Nat} (v : Vector (Option α) n) : Option (Vector α n) :=
  if h : ∀ i : Fin n, (v[i]).isSome then some (tabulate fun i => (v[i]).get (h i)) else none

/-- The signal configuration that SET_SIGNAL_CONFIG carries, or none for BAD_VALUE (R136). -/
def SignalConfigFields.asConfig (f : SignalConfigFields) : Option SignalConfig :=
  match allSome (mapTable SignalFields.asItems f.signals), allSome (mapTable WireFields.asItems f.wires),
      within f.speedTimeout 50 5000, asIndex 16 f.moving with
  | some signals, some wires, true, some moving => some ⟨signals, wires, f.speedTimeout, moving, f.wakeSet⟩
  | _, _, _, _ => none

/-- The speed a speed byte is taken as (R132): none for 255, unknown. -/
def speedOf (b : Byte) : Option Nat := if b.toNat = 255 then none else some (min b.toNat 250)

/-! ### Payload layouts (R174) -/

/-- Two bytes as a 16-bit field, high byte first (R174). -/
def wordOf (hi lo : Byte) : BitVec 16 := hi ++ lo

/-- The fields of a SIGNAL_UPDATE: bit n of the mask and of the values stands for Sn (R174). -/
structure SignalUpdateFields where
  mask : BitVec 16
  values : BitVec 16
  speed : Option Byte
deriving DecidableEq, Repr

/-- The fields of a SIGNAL_UPDATE payload: the mask at 0, the values at 2, and the speed byte at 4 in a payload of 5 bytes;
none for a length other than 4 and 5 (R174, R175). -/
def signalUpdateOf : List Byte → Option SignalUpdateFields
  | [m1, m0, v1, v0] => some ⟨wordOf m1 m0, wordOf v1 v0, none⟩
  | [m1, m0, v1, v0, speed] => some ⟨wordOf m1 m0, wordOf v1 v0, some speed⟩
  | _ => none

/-- The fields of a MESH_ROWS (R174). -/
structure MeshRowsFields where
  slot : Nat
  row : Nat
  nodes : List Node
deriving DecidableEq, Repr

/-- Nodes of four bytes each: U and V, signed, in sixteenths; none when the last one is not whole (R174). -/
def nodesOf : List Byte → Option (List Node)
  | [] => some []
  | u1 :: u0 :: v1 :: v0 :: rest => (nodesOf rest).map fun l => ⟨(wordOf u1 u0).toInt, (wordOf v1 v0).toInt⟩ :: l
  | _ => none

/-- The fields of a MESH_ROWS payload: the slot at 0, the row at 1 and node i at 2 + 4i; none for a length that is not
2 + 4k for a k of 0 to 61 (R174, R175). -/
def meshRowsOf : List Byte → Option MeshRowsFields
  | slot :: row :: rest =>
    if rest.length ≤ 4 * 61 then (nodesOf rest).map fun nodes => ⟨slot.toNat, row.toNat, nodes⟩ else none
  | _ => none

/-- What a payload layout makes of the bytes carried, when they are as many as the length carried says (R170 step 3). -/
def payloadOf {α : Type} (len : Nat) (bytes : List Byte) (layout : List Byte → Option α) : Option α :=
  if len = bytes.length then layout bytes else none

/-- The timing a timing number names (R115, R123). -/
def timingOf : Nat → Option Timing
  | 0 => some .t0
  | 1 => some .t1
  | 2 => some .t2
  | 3 => some .t3
  | _ => none

end Sys2Proof
end

