-- ==== Sys2Proof/Machine/Rings.lean ====
section
/-! DEFINITION. Machine/Rings.lean: the frame ring (chapter 2): its slots, acceptance and rejection, claim and release,
the deadlines, the frame-period measurement and the flush. -/
namespace Sys2Proof.Machine

/-- The ring with every slot changed by `f`. -/
def Ring.mapSlots (r : Ring) (f : Slot → Slot) : Ring := { r with slots := mapTable f r.slots }

/-- FILLING to FREE (R26, R28). -/
def Slot.dropFilling : Slot → Slot
  | .filling _ => .free
  | x => x

/-- READY to FREE (R27 step 1). -/
def Slot.dropReady : Slot → Slot
  | .ready _ => .free
  | x => x

/-- SHOWING to FREE (R29, R30). -/
def Slot.dropShowing : Slot → Slot
  | .showing _ => .free
  | x => x

/-- READY to SHOWING (R29). -/
def Slot.showReady : Slot → Slot
  | .ready f => .showing f
  | x => x

/-- The frame of a FILLING slot changed. -/
def Slot.onFilling (g : Frame → Frame) : Slot → Slot
  | .filling f => .filling (g f)
  | x => x

/-- FILLING to READY, the record filled in at acceptance (R27 step 2). -/
def Slot.acceptFilling (sequence arrival : Nat) : Slot → Slot
  | .filling f => .ready { f with record := { f.record with sequence := some sequence, arrival := some arrival } }
  | x => x

/-- The slot is FREE. -/
def Slot.isFree : Slot → Bool
  | .free => true
  | _ => false

/-- The slot is SHOWING. -/
def Slot.isShowing : Slot → Bool
  | .showing _ => true
  | _ => false

/-- The lowest-numbered slot of the ring that satisfies a test. -/
def Ring.lowest (r : Ring) (test : Slot → Bool) : Option (Fin 3) :=
  if test r.slots[0] then some 0 else if test r.slots[1] then some 1 else if test r.slots[2] then some 2 else none

/-- A cleared repair record (R13). -/
def clearRepair : RepairRecord := ⟨0, 0, 0, []⟩

/-- The lowest-numbered FREE slot becomes FILLING with a new frame record, or none when no slot is FREE (R26 step 2). -/
def Ring.openFrame (r : Ring) (number : Byte) : Option Ring :=
  (r.lowest Slot.isFree).map fun (i : Fin 3) =>
    { r with slots := r.slots.set i.val (.filling ⟨⟨none, number, none, clearRepair⟩, []⟩) i.isLt }

/-- Acceptance of the FILLING frame at the instant `now` (R27 steps 1 to 3). -/
def Ring.accept (r : Ring) (p : PortItems) (now timeBase : Nat) : Ring :=
  let count := (r.acceptCount + 1) % 4294967296
  { r.mapSlots (fun x => x.dropReady.acceptFilling count timeBase) with
    acceptCount := count
    picture := .fresh
    staleTimer := some (now + millis (r.staleLimit p.period))
    lostTimer := some (now + millis p.lostLimit) }

/-- Rejection or truncation: the FILLING slot becomes FREE (R26, R28). -/
def Ring.reject (r : Ring) : Ring := r.mapSlots Slot.dropFilling

/-- A claim by the composer (R29). -/
def Ring.claim (r : Ring) : Ring :=
  if r.readyFrame.isSome then r.mapSlots (fun x => x.dropShowing.showReady) else r

/-- A release by the composer (R30). -/
def Ring.release (r : Ring) : Ring := r.mapSlots Slot.dropShowing

/-- The lost deadline is started with the configured lost limit (R33). -/
def Ring.armLost (r : Ring) (p : PortItems) (now : Nat) : Ring := { r with lostTimer := some (now + millis p.lostLimit) }

/-- A flush (R42): `live` says whether the port ends the event enabled and powered. -/
def Ring.flushed (p : PortItems) (now : Nat) (live : Bool) : Ring where
  slots := Vector.replicate 3 .free
  acceptCount := 0
  picture := .absent
  staleTimer := none
  lostTimer := if live then some (now + millis p.lostLimit) else none
  prevStart := none
  intervals := []

/-- The interval list with a measured interval added: the oldest is removed when it already holds 8 (R38 step 2). -/
def addInterval (l : List Nat) (d : Nat) : List Nat := (if l.length < 8 then l else l.drop 1) ++ [d]

/-- The measurement at a FRAME_START that arrives at `now` in 0.01 ms units (R38, R39). -/
def Ring.measure (r : Ring) (p : PortItems) (now : Nat) : Ring :=
  match r.prevStart with
  | none => { r with prevStart := some now }
  | some before =>
    let d := (now - before + 5) / 10
    { r with
      intervals := if d > 10 * p.lostLimit then [] else addInterval r.intervals d
      prevStart := some now }

/-- The stale deadline expires (R34): it acts on the picture state in FRESH. -/
def Ring.expireStale (r : Ring) : Ring :=
  { r with staleTimer := none, picture := if r.picture = .fresh then .stale else r.picture }

/-- The lost deadline expires (R33). -/
def Ring.expireLost (r : Ring) : Ring := { r with lostTimer := none, staleTimer := none, picture := .lost }

end Sys2Proof.Machine
end

