-- ==== Sys2Proof/Machine/Metering.lean ====
section
/-! DEFINITION. Machine/Metering.lean: the metering unit (chapter 3): the effective window, the sampling grid, the gain
follower, the assessment and its verdict, SET_METERING's effect and the flush. -/
namespace Sys2Proof.Machine

/-- Luma of a pixel (chapter 4.3, R46). -/
def luma (p : Pixel) : Nat := (77 * p.r.toNat + 150 * p.g.toNat + 29 * p.b.toNat + 128) / 256

/-- A metering window. -/
structure Window where
  x : Nat
  y : Nat
  w : Nat
  h : Nat
deriving DecidableEq, Repr

/-- The effective window (R45). -/
def effectiveWindow (m : MeterItems) (frameW frameH : Nat) : Window :=
  if m.winX + m.winW ≤ frameW ∧ m.winY + m.winH ≤ frameH then ⟨m.winX, m.winY, m.winW, m.winH⟩
  else ⟨0, 0, 32 * (frameW / 32), 24 * (frameH / 24)⟩

/-- The sample lumas of the grid, row by row (R46): every fourth pixel of every fourth line of the window. -/
def sampleGrid (rows : List (List Pixel)) (win : Window) : List (List Nat) :=
  (everyFourth ((rows.drop win.y).take win.h)).map fun row => (everyFourth ((row.drop win.x).take win.w)).map luma

/-- The mean luma M of the frame (R46). -/
def meanLuma (grid : List (List Nat)) (win : Window) : Nat :=
  let count := (win.w / 4) * (win.h / 4)
  ((grid.map List.sum).sum + count / 2) / count

/-- The wanted gain g* (R48 steps 1 and 2). -/
def wantedGain (target mean : Nat) : Nat := (128 * target + max mean 1 / 2) / max mean 1

/-- One step of the gain follower (R48). -/
def gainStep (m : MeterItems) (mean gain : Nat) : Nat :=
  let d : Int := (wantedGain m.target mean : Int) - gain
  if d.natAbs ≤ m.deadBand then gain
  else (clampInt ((gain : Int) + clampInt d (-(m.slew : Int)) m.slew) m.gainMin m.gainMax).toNat

/-- The samples of block (c, r) of the grid (R52). -/
def blockSamples (grid : List (List Nat)) (win : Window) (c r : Nat) : List Nat :=
  (((grid.drop (r * (win.h / 24))).take (win.h / 24)).map fun row =>
    (row.drop (c * (win.w / 32))).take (win.w / 32)).flatten

/-- The activity of a block: its greatest sample luma minus its least (R52). -/
def activity (samples : List Nat) : Nat := samples.foldl max 0 - samples.foldl min 255

/-- The low-block count L over 8 columns and 6 rows of blocks (R52). -/
def lowBlocks (grid : List (List Nat)) (win : Window) (threshold : Nat) : Nat :=
  ((List.range 6).map fun r =>
    ((List.range 8).filter fun c => decide (activity (blockSamples grid win c r) < threshold)).length).sum

/-- The verdict of a low-block count (R54). -/
def verdictOf (m : MeterItems) (low : Nat) : Verdict :=
  if low ≤ m.clearMax then .clear else if low < m.obscuredMin then .degraded else .obscured

/-- A verdict enters the history at the front; the oldest of four leaves (R55). -/
def addVerdict (v : Verdict) (history : List Verdict) : List Verdict := (v :: history).take 3

/-- The gate is open (R53). -/
def gateOpen (u : SignalUnit) : Gate → Bool
  | .ungated => true
  | .moving => u.movingValue
  | .signal n => u.valueAt n

/-- The work at an accepted frame (R47, R48, R53): gain step, interval count, and the assessment of a due frame. -/
def Meter.onFrame (m : Meter) (u : SignalUnit) (p : PortItems) (rows : List (List Pixel)) : Meter :=
  let win := effectiveWindow m.config p.width p.height
  let grid := sampleGrid rows win
  let mean := meanLuma grid win
  let gain := gainStep m.config mean m.gain
  if m.intervalCount + 1 = m.config.interval then
    let assessed := m.config.darkLimit ≤ mean && gateOpen u m.config.gate
    { m with
      gain := gain
      intervalCount := 0
      history :=
        if assessed then addVerdict (verdictOf m.config (lowBlocks grid win m.config.clarityThreshold)) m.history
        else m.history }
  else { m with gain := gain, intervalCount := m.intervalCount + 1 }

/-- The gain clamped into the configured limits (R49). -/
def Meter.clampGain (m : Meter) : Meter := { m with gain := clampNat m.gain m.config.gainMin m.config.gainMax }

/-- A flush reaches the metering unit (R50). -/
def Meter.flush (m : Meter) : Meter :=
  { m with gain := clampNat 128 m.config.gainMin m.config.gainMax, intervalCount := 0, history := [] }

/-- A window item changes (R58). -/
def windowChanges (a b : MeterItems) : Bool :=
  a.winX != b.winX || a.winY != b.winY || a.winW != b.winW || a.winH != b.winH

/-- A clarity item changes (R58). -/
def clarityItemsChange (a b : MeterItems) : Bool :=
  a.clarityThreshold != b.clarityThreshold || a.clearMax != b.clearMax || a.obscuredMin != b.obscuredMin

/-- An accepted SET_METERING (R49, R58). -/
def Meter.configure (m : Meter) (items : MeterItems) : Meter :=
  let restart := windowChanges m.config items || clarityItemsChange m.config items
  Meter.clampGain { m with
    config := items
    history := if restart then [] else m.history
    intervalCount := if restart || m.config.interval != items.interval then 0 else m.intervalCount }

/-- A profile load at a port that is not flushed (R59): the gain is clamped into the loaded limits, the interval count
becomes 0 and the history is empty. -/
def Meter.load (m : Meter) (items : MeterItems) : Meter :=
  Meter.clampGain { m with config := items, history := [], intervalCount := 0 }

end Sys2Proof.Machine
end

