-- ==== Sys2Proof/Machine/Ports.lean ====
section
/-! DEFINITION. Machine/Ports.lean: the camera port (chapter 1): the training sweep, line reception and repair, the
judgement of a frame, and what a port does to itself on abandoning its work. -/
namespace Sys2Proof.Machine

/-- The align request level of the back channel: asserted in TRAINING, released otherwise (R2). -/
def Port.alignRequest (p : Port) : Bool := p.link == .training

/-- The word timer's time in milliseconds (R9). -/
def wordTimerMs : Nat := 200

/-! ### Training (R9 to R12) -/

/-- An attempt begins (R9). -/
def Port.beginAttempt (p : Port) (now : Nat) : Port :=
  { p with
    record := { p.record with
      attempts := p.record.attempts + 1
      passMap := Vector.replicate 32 .notTried
      windowStart := none
      windowWidth := 0 }
    phase := 0
    words := []
    wordTimer := some (now + millis wordTimerMs) }

/-- A sweep begins: the port enters TRAINING (R9). -/
def Port.beginSweep (p : Port) (now : Nat) : Port :=
  Port.beginAttempt { p with
    link := .training
    record := { p.record with attempts := 0, chosenPhase := none }
    counters := { p.counters with trainings := bump p.counters.trainings } } now

/-- An enabled, powered port in DOWN examines carrier detect: a present carrier begins a sweep (R5). -/
def Port.examineCarrier (p : Port) (now : Nat) : Port := if p.carrier then p.beginSweep now else p

/-- The port gives up any attempt or frame in progress, uncounted (R6, R7, R8, R22): the word timer is stopped, the words
taken are dropped, no frame is open, and the consecutive-rejection count is 0. -/
def Port.abandon (p : Port) : Port :=
  { p with words := [], wordTimer := none, frameOpen := false, expectedLine := 0, rejections := 0 }

/-- The training words by slot (R3). -/
def PortItems.trainingWord (p : Sys2Proof.PortItems) : Nat → Nat
  | 0 => p.word0
  | 1 => p.word1
  | 2 => p.word2
  | _ => p.word3

/-- The slot that a word equals, the lowest first (R10). -/
def wordSlot (p : Sys2Proof.PortItems) (w : Nat) : Option Nat :=
  if w = p.word0 then some 0 else if w = p.word1 then some 1 else if w = p.word2 then some 2
  else if w = p.word3 then some 3 else none

/-- Words that run on through the cycle of four slots from slot `k` (R10). -/
def followsCycle (p : Sys2Proof.PortItems) : Nat → List (BitVec 10) → Bool
  | _, [] => true
  | k, w :: rest => decide (w.toNat = PortItems.trainingWord p (k % 4)) && followsCycle p (k + 1) rest

/-- The judgement of a phase from its sixteen words (R10). -/
def judgePhase (p : Sys2Proof.PortItems) (words : List (BitVec 10)) : PhaseResult :=
  match words with
  | [] => .fail
  | first :: _ =>
    match wordSlot p first.toNat with
    | some k => if followsCycle p k words then .pass else .fail
    | none => .fail

/-- The longest run of PASS entries, the lowest start first (R11): `at` is the phase of the head, `run` the length of the
run that ends before it, `best` the start and length of the best run so far. -/
def longestRun : List PhaseResult → Nat → Nat → Nat × Nat → Nat × Nat
  | [], _, _, best => best
  | x :: rest, i, run, best =>
    if x = .pass then
      longestRun rest (i + 1) (run + 1) (if run + 1 > best.2 then (i - run, run + 1) else best)
    else longestRun rest (i + 1) 0 best

/-- Start and width of the window of a pass map: width 0 and no start when no phase passed (R11). -/
def windowOf (map : Vector PhaseResult 32) : Option Nat × Nat :=
  let best := longestRun map.toList 0 0 (0, 0)
  if best.2 = 0 then (none, 0) else (some best.1, best.2)

/-- The record takes the window of its pass map (R11). -/
def TrainingRecord.judged (t : TrainingRecord) : TrainingRecord :=
  { t with windowStart := (windowOf t.passMap).1, windowWidth := (windowOf t.passMap).2 }

/-- A failed attempt (R12): the next attempt begins at once, or the third one ends the sweep in FAILED. -/
def Port.failAttempt (p : Port) (now : Nat) : Port :=
  let p := { p with counters := { p.counters with trainingFailures := bump p.counters.trainingFailures } }
  if p.record.attempts < 3 then p.beginAttempt now else { p with link := .failed, wordTimer := none, words := [] }

/-- An attempt whose phase 31 has been judged (R11): the port locks, or the attempt fails. -/
def Port.endAttempt (p : Port) (now : Nat) : Port :=
  let r := p.record.judged
  if p.config.items.minWindow ≤ r.windowWidth then
    let chosen := r.windowStart.getD 0 + (r.windowWidth - 1) / 2
    { p with
      link := .locked
      record := { r with chosenPhase := some chosen }
      phase := chosen
      words := []
      wordTimer := none
      frameOpen := false
      expectedLine := 0 }
  else Port.failAttempt { p with record := r } now

/-- The word timer expires in TRAINING (R12): the entries judged so far give the window, and the attempt fails. -/
def Port.timeOut (p : Port) (now : Nat) : Port := Port.failAttempt { p with record := p.record.judged } now

/-- A phase is judged after its sixteenth word (R10). -/
def Port.phaseJudged (p : Port) (words : List (BitVec 10)) (now : Nat) : Port :=
  let map := if h : p.phase < 32 then p.record.passMap.set p.phase (judgePhase p.config.items words) h
    else p.record.passMap
  let p := { p with record := { p.record with passMap := map }, words := [] }
  if p.phase < 31 then { p with phase := p.phase + 1 } else p.endAttempt now

/-- A word arrives in TRAINING (R10). -/
def Port.takeWord (p : Port) (w : BitVec 10) (now : Nat) : Port :=
  let words := p.words ++ [w]
  let p := { p with words := words, wordTimer := some (now + millis wordTimerMs) }
  if words.length < 16 then p else p.phaseJudged words now

/-! ### Line reception (R13 to R16) -/

/-- The bytes a LINE's check covers: index, high byte first, then each pixel as R, G, B (R1). -/
def lineBytes (index : BitVec 16) (pixels : List Pixel) : List Byte :=
  bytesOfWord index ++ pixels.flatMap fun p => [p.r, p.g, p.b]

/-- A LINE is damaged (R1). -/
def lineDamaged (width : Nat) (index : BitVec 16) (pixels : List Pixel) (check : BitVec 16) : Bool :=
  decide (crc16 (lineBytes index pixels) ≠ check) || decide (pixels.length ≠ width)

/-- The substitute for line `i` (R15): row i of the newest accepted frame, else the row above, else mid-grey. -/
def substitute (newest : Option Frame) (filling : Frame) (width i : Nat) : List Pixel :=
  match newest.bind fun f => f.rows[i]? with
  | some row => row
  | none =>
    match if i = 0 then none else filling.rows[i - 1]? with
    | some row => row
    | none => List.replicate width (rgb 128 128 128)

/-- The repair record after line `i` is repaired (R16). -/
def RepairRecord.repaired (r : RepairRecord) (i : Nat) : RepairRecord where
  damaged := r.damaged + 1
  run := r.run + 1
  longest := max r.longest (r.run + 1)
  lines := if r.lines.length < 8 then r.lines ++ [i] else r.lines

/-- Line `i` of the open frame is repaired (R15, R16). -/
def Cam.repairLine (c : Cam) (i : Nat) : Cam :=
  { c with
    ring := c.ring.mapSlots (Slot.onFilling fun f =>
      { record := { f.record with repair := f.record.repair.repaired i }
        rows := f.rows ++ [substitute c.ring.newestFrame f c.port.config.items.width i] })
    port := { c.port with
      counters := { c.port.counters with linesRepaired := bump c.port.counters.linesRepaired } } }

/-- Lines `first`, `first + 1`, ... are repaired in increasing order, `count` of them (R14, R15, R17). -/
def Cam.repairLines (c : Cam) (first : Nat) : Nat → Cam
  | 0 => c
  | count + 1 => (c.repairLine first).repairLines (first + 1) count

/-- An undamaged line is written: the current run becomes 0 (R14, R16). -/
def Cam.writeLine (c : Cam) (pixels : List Pixel) : Cam :=
  { c with ring := c.ring.mapSlots (Slot.onFilling fun f =>
      { record := { f.record with repair := { f.record.repair with run := 0 } }
        rows := f.rows ++ [pixels] }) }

/-- A LINE in LOCKED with frame open (R14). -/
def Cam.takeLine (c : Cam) (index : BitVec 16) (pixels : List Pixel) (check : BitVec 16) : Cam :=
  let n := index.toNat
  let e := c.port.expectedLine
  if c.port.config.items.height ≤ n ∨ n < e then
    { c with port := { c.port with counters := { c.port.counters with lineErrors := bump c.port.counters.lineErrors } } }
  else
    let c := c.repairLines e (n - e)
    let c := if lineDamaged c.port.config.items.width index pixels check then c.repairLine n else c.writeLine pixels
    { c with port := { c.port with expectedLine := n + 1 } }

/-- A FRAME_START in LOCKED (R13, R26, R38), or none when no slot is FREE. -/
def Cam.startFrame (c : Cam) (number : Byte) (hundredths : Nat) : Option Cam :=
  let counters := if c.port.frameOpen then { c.port.counters with truncated := bump c.port.counters.truncated }
    else c.port.counters
  ((c.ring.reject.measure c.port.config.items hundredths).openFrame number).map fun ring =>
    { c with
      ring := ring
      port := { c.port with counters := counters, frameOpen := true, expectedLine := 0 } }

/-! ### Judgement (R17, R27, R28) -/

/-- The frame's damage lies within the port's limits (R17). -/
def PortItems.accepts (p : Sys2Proof.PortItems) (r : RepairRecord) : Bool :=
  decide (r.damaged ≤ p.damageLimit) && decide (r.longest ≤ p.runLimit)

/-- The open frame after FRAME_END has repaired its missing lines (R17). -/
def Cam.completeFrame (c : Cam) : Cam :=
  c.repairLines c.port.expectedLine (c.port.config.items.height - c.port.expectedLine)

/-- No frame is open any more (R17). -/
def Port.closeFrame (p : Port) : Port := { p with frameOpen := false, expectedLine := 0 }

/-- Acceptance (R17, R27, R47): the ring takes the frame, a READY frame it replaces counts as dropped, and the metering
unit reads the accepted frame. -/
def Cam.acceptFrame (c : Cam) (u : SignalUnit) (now timeBase : Nat) : Cam :=
  let dropped := if c.ring.readyFrame.isSome then bump c.port.counters.dropped else c.port.counters.dropped
  let rows := (c.ring.fillingFrame.map Frame.rows).getD []
  { port := { c.port.closeFrame with
      rejections := 0
      counters := { c.port.counters with accepted := bump c.port.counters.accepted, dropped := dropped } }
    ring := c.ring.accept c.port.config.items now timeBase
    meter := c.meter.onFrame u c.port.config.items rows }

/-- Rejection (R17, R28): the slot is freed and both counts advance. -/
def Cam.rejectFrame (c : Cam) : Cam :=
  { c with
    port := { c.port.closeFrame with
      rejections := c.port.rejections + 1
      counters := { c.port.counters with rejected := bump c.port.counters.rejected } }
    ring := c.ring.reject }

/-! ### Flush and its causes, for one camera (R42, R50) -/

/-- The ring and the metering unit are flushed (R42, R50); the port is as it ends the event. -/
def Cam.flush (c : Cam) (now : Nat) (live : Bool) : Cam :=
  { c with ring := Ring.flushed c.port.config.items now live, meter := c.meter.flush }

/-- A retrain (R8, R17, R23): work abandoned, ring flushed, a new sweep. -/
def Cam.retrain (c : Cam) (now : Nat) : Cam :=
  Cam.flush { c with port := c.port.abandon.beginSweep now } now true

/-- CAMERA_DISABLE in a state other than DISABLED (R6). -/
def Cam.disable (c : Cam) (now : Nat) : Cam :=
  Cam.flush { c with port := { c.port.abandon with
    link := .disabled, config := { c.port.config with enabled := false } } } now false

/-- CAMERA_ENABLE in DISABLED (R5): the lost deadline is armed and carrier detect is examined. -/
def Cam.enable (c : Cam) (now : Nat) : Cam :=
  { c with
    port := Port.examineCarrier { c.port with
      link := .down, config := { c.port.config with enabled := true } } now
    ring := c.ring.armLost c.port.config.items now }

/-- Carrier lost in TRAINING, LOCKED or FAILED (R7). -/
def Cam.loseCarrier (c : Cam) (now : Nat) : Cam :=
  Cam.flush { c with port := { c.port.abandon with
    link := .down, record := { c.port.record with attempts := 0 } } } now true

/-- Standby entry of a port whose *enabled* item is yes (R22). -/
def Cam.enterStandby (c : Cam) (now : Nat) : Cam :=
  Cam.flush { c with port := { c.port.abandon with link := .down, linkPower := false, wasEnabled := true } } now false

/-- Wake of a port that recorded being enabled (R22, R33). -/
def Cam.wake (c : Cam) (now : Nat) : Cam :=
  if c.port.wasEnabled then
    { c with
      port := Port.examineCarrier { c.port with linkPower := true, wasEnabled := false } now
      ring := c.ring.armLost c.port.config.items now }
  else c

end Sys2Proof.Machine
end

