-- ==== Sys2Proof/Machine/Pixels.lean ====
section
/-! DEFINITION. Machine/Pixels.lean: which pixels a primitive covers (chapter 5.5), the pixel pipeline (chapter 6.3), the
system marks (chapter 6.4), the active area (R103), and the pixel of a repeat frame (R121). All arithmetic is in integers; `/` on integers with a
positive divisor rounds toward minus infinity, as div does (chapter 4.2). -/
namespace Sys2Proof.Machine

/-! ### Coverage (R88 to R92) -/

/-- round(q / d): nearest, halves away from zero (R88). -/
def roundDiv (q d : Int) : Int :=
  let m : Int := ((2 * q.natAbs + d.natAbs) / (2 * d.natAbs) : Nat)
  if q.sign * d.sign < 0 then -m else m

/-- The band of width b about a centre (R88). -/
def inBand (centre : Int) (b : Nat) (z : Int) : Bool :=
  decide (centre - ((b - 1) / 2 : Nat) ≤ z) && decide (z ≤ centre + (b / 2 : Nat))

/-- `z` lies between `a` and `b` inclusive, in either direction. -/
def between (a b z : Int) : Bool := decide (min a b ≤ z) && decide (z ≤ max a b)

/-- The pixels of a LINE (R88). -/
def lineCovers (x0 y0 x1 y1 : Int) (b : Nat) (X Y : Int) : Bool :=
  let dx := x1 - x0
  let dy := y1 - y0
  if dx = 0 ∧ dy = 0 then inBand x0 b X && inBand y0 b Y
  else if dx.natAbs ≥ dy.natAbs then between x0 x1 X && inBand (y0 + roundDiv ((X - x0) * dy) dx) b Y
  else between y0 y1 Y && inBand (x0 + roundDiv ((Y - y0) * dx) dy) b X

/-- The pixels of a rectangle (R90). -/
def boxCovers (x y : Int) (w h : Nat) (X Y : Int) : Bool :=
  decide (x ≤ X) && decide (X ≤ x + w - 1) && decide (y ≤ Y) && decide (Y ≤ y + h - 1)

/-- The pixels of a RECT: those of its rectangle within b of an edge (R89). -/
def rectCovers (x y : Int) (w h b : Nat) (X Y : Int) : Bool :=
  boxCovers x y w h X Y &&
  (decide (X < x + b) || decide (X > x + w - 1 - b) || decide (Y < y + b) || decide (Y > y + h - 1 - b))

/-- The set cells of the eight built-in marks, one value a row, most significant bit first (R91). -/
def glyphRows : Nat → List (BitVec 16)
  | 0 => [0x0001#16, 0x0002#16, 0x0004#16, 0x0F08#16, 0x7FFE#16, 0x4022#16, 0x43C2#16, 0x44A2#16,
          0x4522#16, 0x4622#16, 0x47C2#16, 0x4802#16, 0x7FFE#16, 0x2000#16, 0x4000#16, 0x8000#16]
  | 1 => [0xFFFF#16, 0x7FFE#16, 0x3FFC#16, 0x1FF8#16, 0x0FF0#16, 0x07E0#16, 0x03C0#16, 0x0180#16,
          0x0180#16, 0x03C0#16, 0x07E0#16, 0x0FF0#16, 0x1FF8#16, 0x3FFC#16, 0x7FFE#16, 0xFFFF#16]
  | 2 => [0x07E0#16, 0x1818#16, 0x2004#16, 0x4202#16, 0x4402#16, 0x8BC1#16, 0x8421#16, 0x8421#16,
          0x8421#16, 0x8421#16, 0x83C1#16, 0x4002#16, 0x4002#16, 0x2004#16, 0x1818#16, 0x07E0#16]
  | 3 => [0x0180#16, 0x0240#16, 0x0240#16, 0x0420#16, 0x05A0#16, 0x0990#16, 0x0990#16, 0x1188#16,
          0x1188#16, 0x2184#16, 0x2004#16, 0x4182#16, 0x4182#16, 0x8001#16, 0x8001#16, 0xFFFF#16]
  | 4 => [0xFFFF#16, 0x8001#16, 0x8001#16, 0x8661#16, 0x8661#16, 0x8661#16, 0x8661#16, 0x8661#16,
          0x8661#16, 0x8661#16, 0x8661#16, 0x8661#16, 0x8661#16, 0x8001#16, 0x8001#16, 0xFFFF#16]
  | 5 => [0x0000#16, 0x0100#16, 0x0300#16, 0x0700#16, 0x0F00#16, 0x1F00#16, 0x3FF8#16, 0x7FF8#16,
          0x7FF8#16, 0x3FF8#16, 0x1F00#16, 0x0F00#16, 0x0700#16, 0x0300#16, 0x0100#16, 0x0000#16]
  | 6 => [0x0000#16, 0x0080#16, 0x00C0#16, 0x00E0#16, 0x00F0#16, 0x00F8#16, 0x1FFC#16, 0x1FFE#16,
          0x1FFE#16, 0x1FFC#16, 0x00F8#16, 0x00F0#16, 0x00E0#16, 0x00C0#16, 0x0080#16, 0x0000#16]
  | 7 => [0x0180#16, 0x03C0#16, 0x03C0#16, 0x0180#16, 0x07E0#16, 0x1FF8#16, 0x1FF8#16, 0x07E0#16,
          0x07E0#16, 0x07E0#16, 0x0660#16, 0x0660#16, 0x0660#16, 0x0660#16, 0x0660#16, 0x0660#16]
  | _ => []

/-- Cell (a, b) of mark g is set (R91). -/
def glyphCell (g a b : Nat) : Bool :=
  match (glyphRows g)[b]? with
  | some row => decide (a < 16) && row.getLsbD (15 - a)
  | none => false

/-- The pixels of a GLYPH (R91). -/
def glyphCovers (x y : Int) (g s : Nat) (X Y : Int) : Bool :=
  boxCovers x y (16 * s) (16 * s) X Y && glyphCell g ((X - x).toNat / s) ((Y - y).toNat / s)

/-- The canvas pixels a primitive covers (R88 to R92). -/
def Geometry.covers (g : Geometry) (X Y : Int) : Bool :=
  boxCovers 0 0 canvasW canvasH X Y &&
  match g with
  | .line x0 y0 x1 y1 b => lineCovers x0 y0 x1 y1 b X Y
  | .rect x y w h b => rectCovers x y w h b X Y
  | .box x y w h => boxCovers x y w h X Y
  | .glyph x y g s => glyphCovers x y g s X Y

/-! ### The pixel pipeline (R104 to R110) -/

/-- A channel formula applied to R, G and B separately (chapter 4.3). -/
def Pixel.perChannel (f : Nat → Nat → Nat) (p q : Pixel) : Pixel :=
  rgb (f p.r.toNat q.r.toNat) (f p.g.toNat q.g.toNat) (f p.b.toNat q.b.toNat)

/-- Stage 0: tile-local position, mirrored when the tile is (R104). -/
def tileLocal (t : Tile) (X Y : Nat) : Nat × Nat :=
  (if t.mirror then t.w - 1 - (X - t.x) else X - t.x, Y - t.y)

/-- Stage 1a: one coordinate of a LINEAR mapping, in sixteenths (R105). -/
def linearCoord (origin window size pos : Nat) : Int :=
  16 * (origin : Int) + (((32 * pos * (window - 1) + (size - 1)) / (2 * (size - 1)) : Nat) : Int)

/-- Node (i, j) of a mesh held as rows of nodes (R62). -/
def nodeAt (nodes : List (List Node)) (i j : Nat) : Node := ((nodes[j]?.bind fun row => row[i]?).getD ⟨0, 0⟩)

/-- Stage 1b: the MESH mapping, u and v in sixteenths (R106). -/
def meshCoord (nodes : List (List Node)) (x y : Nat) : Int × Int :=
  let i := x / 32
  let j := y / 32
  let fx : Int := (x % 32 : Nat)
  let fy : Int := (y % 32 : Nat)
  let a := (32 - fx) * (32 - fy)
  let b := fx * (32 - fy)
  let c := (32 - fx) * fy
  let d := fx * fy
  let n00 := nodeAt nodes i j
  let n10 := nodeAt nodes (i + 1) j
  let n01 := nodeAt nodes i (j + 1)
  let n11 := nodeAt nodes (i + 1) (j + 1)
  ((a * n00.u + b * n10.u + c * n01.u + d * n11.u + 512) / 1024,
   (a * n00.v + b * n10.v + c * n01.v + d * n11.v + 512) / 1024)

/-- Stage 2: the position is outside the frame (R107). -/
def outsideFrame (u v : Int) (frameW frameH : Nat) : Bool :=
  decide (u < 0) || decide (v < 0) || decide (u > 16 * ((frameW : Int) - 1)) || decide (v > 16 * ((frameH : Int) - 1))

/-- The camera pixel at (x, y) of the rows of a slot. -/
def pixelAt (rows : List (List Pixel)) (x y : Nat) : Pixel :=
  ((rows[y]?.bind fun row => row[x]?).getD (rgb 0 0 0))

/-- Stage 3 for one channel (R108). -/
def bilinear (au av s00 s10 s01 s11 : Nat) : Nat :=
  ((16 - au) * (16 - av) * s00 + au * (16 - av) * s10 + (16 - au) * av * s01 + au * av * s11 + 128) / 256

/-- Stage 4 for one channel (R109). -/
def applyGain (gain p : Nat) : Nat := min 255 ((p * gain + 64) / 128)

/-- Stages 3 and 4 at a position inside the frame (R108, R109). -/
def samplePixel (rows : List (List Pixel)) (gain u v : Nat) : Pixel :=
  let ui := u / 16
  let au := u % 16
  let vi := v / 16
  let av := v % 16
  let s00 := pixelAt rows ui vi
  let s10 := pixelAt rows (ui + 1) vi
  let s01 := pixelAt rows ui (vi + 1)
  let s11 := pixelAt rows (ui + 1) (vi + 1)
  rgb (applyGain gain (bilinear au av s00.r.toNat s10.r.toNat s01.r.toNat s11.r.toNat))
    (applyGain gain (bilinear au av s00.g.toNat s10.g.toNat s01.g.toNat s11.g.toNat))
    (applyGain gain (bilinear au av s00.b.toNat s10.b.toNat s01.b.toNat s11.b.toNat))

/-- Stages 0 to 4 of a tile pixel drawn from a slot (R104 to R109). -/
def cameraPixel (t : LatchedTile) (cam : LatchedCamera) (rows : List (List Pixel)) (X Y : Nat) : Pixel :=
  let pos := tileLocal t.tile X Y
  let uv : Int × Int :=
    match t.decision, t.tile.mapping with
    | .mesh nodes, _ => meshCoord nodes pos.1 pos.2
    | _, .linear sx sy sw sh => (linearCoord sx sw t.tile.w pos.1, linearCoord sy sh t.tile.h pos.2)
    | _, .mesh _ => (-1, -1)
  if outsideFrame uv.1 uv.2 cam.width cam.height then t.tile.fill
  else samplePixel rows cam.gain uv.1.toNat uv.2.toNat

/-- The mix of a colour over a pixel with weight alpha in sixteenths (R110). -/
def blend (alpha : Nat) (colour out : Pixel) : Pixel :=
  Pixel.perChannel (fun c o => (alpha * c + (16 - alpha) * o + 8) / 16) colour out

/-- A primitive is visible in the output frame (R85). -/
def ComposedFrame.shows (f : ComposedFrame) (p : Prim) : Bool :=
  (match p.showWhen with
    | .always => true
    | .onSignal n wanted => f.signals[n] == wanted) &&
  (match p.blink with
    | .steady => true
    | .slow => f.slowVisible
    | .fast => f.fastVisible)

/-- Stage 5: the view's overlays on a pixel, oldest first (R110). -/
def ComposedFrame.overlay (f : ComposedFrame) (X Y : Nat) (out : Pixel) : Pixel :=
  f.overlays.foldl (fun acc p => if f.shows p && Geometry.covers p.geometry X Y then blend p.alpha p.colour acc else acc)
    out

/-! ### How a tile is drawn, and its marks (R111, R112) -/

/-- The four ways to draw a tile (R111). -/
inductive TileCase where
  | meshFault
  | noPicture
  | picture (rows : Option (List (List Pixel)))
deriving DecidableEq, Repr

/-- A withdrawal made after `limit` pixels acts on the pixel at drawing position `pos` (R101, R103). -/
def withdrawn (limit : Option Nat) (pos : Nat) : Bool :=
  match limit with
  | some p => decide (p ≤ pos)
  | none => false

/-- The way a tile is drawn at drawing position `pos`: the case of R111 with the withdrawals of R101. -/
def ComposedFrame.tileCase (f : ComposedFrame) (t : LatchedTile) (cam : LatchedCamera) (pos : Nat) : TileCase :=
  let fault := match t.decision with
    | .linear => false
    | .fault => true
    | .mesh _ => withdrawn f.meshWithdrawnAt pos
  if fault then .meshFault
  else match cam.picture with
    | .absent => .noPicture
    | .lost => .noPicture
    | _ => .picture (if withdrawn cam.withdrawnAt pos then none else cam.rows)

/-- The visible rectangle of a tile (R103). -/
def ComposedFrame.visible (f : ComposedFrame) (t : Tile) : Window :=
  ⟨t.x, t.y, min (t.x + t.w) f.areaW - t.x, min (t.y + t.h) f.areaH - t.y⟩

/-- A mark of colour `c` drawn where it covers. -/
def mark (covers : Bool) (c out : Pixel) : Pixel := if covers then c else out

/-- Colours of the system marks (R112). -/
def amber : Pixel := rgb 255 160 0
def red : Pixel := rgb 255 0 0
def warningYellow : Pixel := rgb 255 220 0
def white : Pixel := rgb 255 255 255

/-- Scale of the centred glyph (R112). -/
def centreScale (v : Window) : Nat := clampNat (min v.w v.h / 64) 1 4

/-- Scale of the corner glyphs (R112). -/
def cornerScale (v : Window) : Nat := if 96 ≤ min v.w v.h then 2 else 1

/-- A pixel of the visible rectangle within `band` pixels of its edge (R112, R89). -/
def inEdge (v : Window) (band : Nat) (X Y : Int) : Bool := rectCovers v.x v.y v.w v.h band X Y

/-- The centred glyph of a tile (R112). -/
def centredGlyph (v : Window) (g : Nat) (X Y : Int) : Bool :=
  let s := centreScale v
  glyphCovers (v.x + ((v.w : Int) - 16 * s) / 2) (v.y + ((v.h : Int) - 16 * s) / 2) g s X Y

/-- The system marks of a tile over a pixel of its visible rectangle, in the order of R112. -/
def ComposedFrame.marks (f : ComposedFrame) (t : Tile) (cam : LatchedCamera) (kind : TileCase) (X Y : Nat) (out : Pixel) :
    Pixel :=
  let v := f.visible t
  match kind with
  | .meshFault => mark (centredGlyph v 3 X Y) warningYellow out
  | .noPicture => mark (centredGlyph v 0 X Y) white out
  | .picture _ =>
    let stale := cam.picture == .stale
    let obscured := cam.clarity == .obscured
    let lens := obscured || cam.clarity == .degraded
    let s := cornerScale v
    let out := mark (stale && f.slowVisible && inEdge v 4 X Y) amber out
    let out := mark (obscured && inEdge v 8 X Y && !inEdge v 4 X Y) red out
    let out := mark (stale && glyphCovers (v.x + 8) (v.y + 8) 1 s X Y) amber out
    mark (lens && glyphCovers ((v.x : Int) + v.w - 8 - 16 * s) (v.y + 8) 2 s X Y) (if obscured then red else amber) out

/-- The canvas pixel lies in the tile. -/
def Tile.holds (t : Tile) (X Y : Nat) : Bool := decide (t.x ≤ X) && decide (X < t.x + t.w) && decide (t.y ≤ Y) && decide (Y < t.y + t.h)

/-- The canvas pixel lies in the active area (R103). -/
def inArea (area : Nat × Nat) (X Y : Nat) : Bool := decide (X < area.1) && decide (Y < area.2)

/-- A canvas pixel as the composer's drawing order makes it (R103). -/
def ComposedFrame.drawnPixel (f : ComposedFrame) (X Y : Nat) : Pixel :=
  match f.tiles.find? fun t => Tile.holds t.tile X Y with
  | none => f.overlay X Y (rgb 0 0 0)
  | some t =>
    match f.cams[t.tile.camera] with
    | none => f.overlay X Y t.tile.fill
    | some cam =>
      let kind := f.tileCase t cam (Y * f.areaW + X)
      let base := match kind with
        | .picture (some rows) => cameraPixel t cam rows X Y
        | _ => t.tile.fill
      f.marks t.tile cam kind X Y (f.overlay X Y base)

/-- A pixel of a composed frame: a canvas pixel outside the active area is not drawn (R103). -/
def ComposedFrame.pixel (f : ComposedFrame) (X Y : Nat) : Option Pixel :=
  if inArea (f.areaW, f.areaH) X Y then some (f.drawnPixel X Y) else none

/-! ### Repeat frames (R121) -/

/-- The active area of a timing (R115). -/
def areaOf : Timing → Nat × Nat
  | .t0 => (800, 480)
  | .t1 => (1024, 600)
  | .t2 => (1280, 720)
  | .t3 => (1280, 800)

/-- A pixel of a repeat frame: the held picture under the white border and the FROZEN glyph (R121). -/
def repeatPixel (held : Option ComposedFrame) (timing : Timing) (X Y : Nat) : Pixel :=
  let area := areaOf timing
  let base := (held.bind fun f => f.pixel X Y).getD (rgb 0 0 0)
  let out := mark (rectCovers 0 0 area.1 area.2 6 X Y) white base
  mark (glyphCovers (((area.1 : Int) - 32) / 2) 12 4 2 X Y) white out

end Sys2Proof.Machine
end

