-- ==== Sys2Proof/Machine/Composer.lean ====
section
/-! DEFINITION. Machine/Composer.lean: the composer (chapter 6): the latched context taken at an output frame start, the
withdrawals, the discarding of the context, and the picture on the monitor. -/
namespace Sys2Proof.Machine

/-- The composer has drawn on: a free number of pixels, never fewer than were known to be drawn (R101, R103,
assumption 4). It is read once in each event that withdraws something. -/
def State.advanceDrawing (s : State) : State :=
  match s.comp.context with
  | none => s
  | some ctx =>
    { s with
      freeCount := s.freeCount + 1
      comp := { s.comp with context := some { ctx with
        drawn := max ctx.drawn (min (Config.drawnPixels s.freeCount) (ctx.frame.areaW * ctx.frame.areaH)) } } }

/-- A latched camera whose slot is withdrawn after `drawn` pixels (R101); an earlier withdrawal stands. -/
def LatchedCamera.withdraw (c : LatchedCamera) (drawn : Nat) : LatchedCamera :=
  { c with withdrawnAt := some (c.withdrawnAt.getD drawn) }

/-- The composer's reference to camera `i`'s slot is withdrawn, if it holds one (R32, R101). -/
def State.withdrawSlot (s : State) (i : Fin 4) : State :=
  match s.comp.context with
  | none => s
  | some ctx =>
    if ctx.slotRefs[i].isSome then
      { s with comp := { s.comp with context := some { ctx with
        slotRefs := ctx.slotRefs.set i none
        frame := { ctx.frame with
          cams := ctx.frame.cams.set i (ctx.frame.cams[i].map fun c => c.withdraw ctx.drawn) } } } }
    else s

/-- A flush of camera `i`'s ring leaves the camera as `c`: the composer's reference is withdrawn in the same event
(R32, R42). -/
def State.flushCam (s : State) (i : Fin 4) (c : Cam) : State := (s.advanceDrawing.withdrawSlot i).setCam i c

/-- The composer's use of every mesh slot is withdrawn, and its copy ceases to be a latched view (R71, R79, R101). -/
def State.withdrawMeshes (s : State) : State :=
  match s.comp.context with
  | none => s
  | some ctx =>
    { s with comp := { s.comp with context := some { ctx with
      isLatchedView := false
      frame := { ctx.frame with meshWithdrawnAt := some (ctx.frame.meshWithdrawnAt.getD ctx.drawn) } } } }

/-- The context is discarded (R102). -/
def State.discardContext (s : State) : State := { s with comp := { s.comp with context := none, tileFault := false } }

/-- The composer's latched view number (R79). -/
def Composer.latchedView (c : Composer) : Option (Fin 16) :=
  match c.context with
  | some ctx => if ctx.isLatchedView then some ctx.viewNumber else none
  | none => none

/-- The tiles of the latched view, with none while the composer holds no latched view (R70, R79). -/
def Composer.latchedTiles (c : Composer) : List Tile :=
  match c.context with
  | some ctx => if ctx.isLatchedView then ctx.frame.tiles.map LatchedTile.tile else []
  | none => []

/-- The view shows camera `i`. -/
def View.uses (v : View) (i : Fin 4) : Bool := v.tiles.any fun t => t.camera == i

/-- The cameras after the claims and releases of an output frame start (R96 step 2, R97). -/
def State.claimCams (s : State) (v : View) : Vector Cam 4 :=
  tabulate fun i =>
    let c := s.cams[i]
    { c with ring := if View.uses v i then c.ring.claim else c.ring.release }

/-- The claim of camera `i` hands over the same SHOWING slot again (R29, R97). -/
def State.isRepeat (s : State) (v : View) (i : Fin 4) : Bool :=
  View.uses v i && s.cams[i].ring.readyFrame.isNone && s.cams[i].ring.showingFrame.isSome

/-- What is latched for a camera the view uses, after its claim (R95, R96 step 3). -/
def latchCamera (c : Cam) : LatchedCamera where
  rows := c.ring.showingFrame.map Frame.rows
  gain := c.meter.gain
  picture := c.ring.picture
  clarity := c.meter.clarity
  width := c.port.config.items.width
  height := c.port.config.items.height
  withdrawnAt := none

/-- The mesh decision of a tile (R98). -/
def State.meshDecision (s : State) (t : Tile) : MeshDecision :=
  match t.mapping with
  | .linear .. => .linear
  | .mesh slot =>
    match s.mesh.slots[slot] with
    | .ready m => if m.cols = (t.w - 1) / 32 + 2 ∧ m.rows = (t.h - 1) / 32 + 2 then .mesh m.nodes else .fault
    | _ => .fault

/-- The context latched from view `v` at an output frame start (R95, R96); `s` is the state before the claims and
`claimed` the cameras after them. -/
def State.latch (s : State) (v : View) (claimed : Vector Cam 4) : Context where
  viewNumber := s.sel.selected
  isLatchedView := true
  time := s.timeBase
  slotRefs := tabulate fun i => if View.uses v i then claimed[i].ring.lowest Slot.isShowing else none
  drawn := 0
  frame := {
    areaW := (areaOf s.disp.current).1
    areaH := (areaOf s.disp.current).2
    tiles := v.tiles.map fun t => ⟨t, s.meshDecision t⟩
    overlays := v.overlays
    slowVisible := decide (s.timeBase % 1000 < 500)
    fastVisible := decide (s.timeBase % 400 < 200)
    signals := s.sig.values
    cams := tabulate fun i => if View.uses v i then some (latchCamera claimed[i]) else none
    meshWithdrawnAt := none }

/-- The composer with its context latched and its counters advanced (R96 to R99). -/
def Composer.take (c : Composer) (ctx : Context) (repeats : Nat) : Composer where
  context := some ctx
  previousView := some ctx.viewNumber
  tileFault := ctx.frame.tiles.any fun t => t.decision == .fault
  framesComposed := bump c.framesComposed
  repeats := Nat.repeat bump repeats c.repeats

/-- VIEW_CHANGED is given: the previous view number is present and differs (R99). -/
def Composer.viewChanges (c : Composer) (n : Fin 16) : Bool :=
  match c.previousView with
  | some m => decide (m ≠ n)
  | none => false

/-- The output frame start is the composer's event (R96), drawing view `v`. -/
def State.composeView (s : State) (v : View) : State :=
  let claimed := s.claimCams v
  let repeats := ((List.finRange 4).filter (s.isRepeat v)).length
  let t := { s with
    cams := claimed
    comp := s.comp.take (s.latch v claimed) repeats }
  if s.comp.viewChanges s.sel.selected then t.pulse itemViewChanged else t

/-- A pixel of a picture: a black or repeat frame fills the active area of its timing, a composed frame the one latched
with it, and nothing is shown outside (R103, R115, R116, R121). -/
def Screen.pixel (p : Screen) (X Y : Nat) : Option Pixel :=
  match p with
  | .black timing => if inArea (areaOf timing) X Y then some (rgb 0 0 0) else none
  | .composed frame => frame.pixel X Y
  | .repeated held timing => if inArea (areaOf timing) X Y then some (repeatPixel held timing X Y) else none

/-- The picture on the monitor: that of the frame being sent, and in OFF the one that the entry into OFF left there
(R116). -/
def State.screen (s : State) : Option Screen :=
  match s.disp.sending with
  | .nothing => s.disp.shown
  | .black => some (.black s.disp.current)
  | .composed => s.comp.context.map fun ctx => .composed ctx.frame
  | .repeatFrame => some (.repeated s.disp.heldPicture s.disp.current)

/-- The pixel of the cab monitor at (X, Y); none without power (R103, R116, assumptions 24 and 25). -/
def State.displayPixel (s : State) (X Y : Nat) : Option Pixel :=
  if s.powered then s.screen.bind fun p => p.pixel X Y else none

end Sys2Proof.Machine
end

