-- ==== Sys2Proof/Machine/Outputs.lean ====
section
/-! DEFINITION. Machine/Outputs.lean: the display output (chapter 7): entering STARTING, OFF and HOLD, leaving HOLD, the
output frame start, and what a profile load does to the output. -/
namespace Sys2Proof.Machine

/-- The frame period: 16 2/3 ms (R115). -/
def framePeriod : Nat := 5000

/-- The settle time and the hold time in milliseconds (R117, R121). -/
def settleMs : Nat := 200
def holdMs : Nat := 2000

/-- Entry into STARTING at the current timing (R116, R117): a new frame sequence of black frames begins. -/
def Display.enterStarting (d : Display) (now : Nat) : Display :=
  { d with
    state := .starting
    holdPending := false
    settleTimer := some (now + millis settleMs)
    holdTimer := none
    nextStart := some (now + framePeriod)
    sending := .black
    heldPicture := none }

/-- A staged timing is taken (R115, R117). -/
def Display.takeStaged (d : Display) : Display := { d with current := d.staged.getD d.current, staged := none }

/-- Entry into OFF at once: the frame in progress is ended, every timer stopped, and the picture on the monitor stays what it
was, `shown` (R116, R119, R125). -/
def Display.enterOff (d : Display) (shown : Option Screen) : Display :=
  { d with
    state := .off
    holdPending := false
    settleTimer := none
    holdTimer := none
    nextStart := none
    sending := .nothing
    shown := shown }

/-- Leaving HOLD (R122). -/
def Display.leaveHold (d : Display) (now : Nat) : Display :=
  match d.staged with
  | some t =>
    if t ≠ d.current then Display.enterStarting { d with current := t, staged := none } now
    else { d with state := .running, holdTimer := none, staged := none }
  | none => { d with state := .running, holdTimer := none }

/-- The moving signal becomes true (R120, R122, R135): a pending hold is cancelled, and HOLD is left. -/
def Display.onMoving (d : Display) (now : Nat) : Display :=
  match d.state with
  | .hold => d.leaveHold now
  | .running => { d with holdPending := false }
  | _ => d

/-- The items the display output's replies carry (R124). -/
def Display.report (d : Display) : OutputReport := ⟨d.state, d.current, d.staged, d.holdPending⟩

/-- A composed frame that ends at an output frame start counts as shown and becomes the held picture (R121, R124). -/
def State.endComposedFrame (s : State) : State :=
  match s.comp.context with
  | none => s
  | some ctx => { s with disp := { s.disp with
      framesShown := bump s.disp.framesShown, heldPicture := some ctx.frame } }

/-- A frame of kind `k` begins at an output frame start; the next one follows a frame period after it (R116). -/
def State.beginFrame (s : State) (k : Sending) : State :=
  { s with disp := { s.disp with sending := k, nextStart := s.disp.nextStart.map (· + framePeriod) } }

/-- A repeat frame begins (R121, R124). -/
def State.beginRepeat (s : State) : State :=
  State.beginFrame { s with disp := { s.disp with framesRepeated := bump s.disp.framesRepeated } } .repeatFrame

/-- The output enters HOLD at an output frame start (R121). -/
def State.enterHold (s : State) : State :=
  State.beginRepeat (State.discardContext { s with disp := { s.disp with
    state := .hold, holdPending := false, holdTimer := some (s.clock + millis holdMs) } })

/-- The output enters its stop target at an output frame start (R119); `shown` is the picture on the monitor. -/
def State.enterStopTarget (s : State) (shown : Option Screen) : State :=
  State.discardContext { s with disp :=
      if s.disp.stopToStarting then s.disp.takeStaged.enterStarting s.clock else s.disp.enterOff shown }

/-- The output frame start by the output state (R116), or none when the selected view is undefined. -/
def State.startFrame (s : State) : Option State :=
  match s.disp.state with
  | .off => some s
  | .starting => some (s.beginFrame .black)
  | .hold => some s.beginRepeat
  | .stopping => some (s.endComposedFrame.enterStopTarget s.screen)
  | .running =>
    let s := s.endComposedFrame
    if s.disp.holdPending then some s.enterHold
    else (s.views[s.sel.selected]).map fun v => (s.composeView v).beginFrame .composed

/-- Stopping at the end of the frame in progress (R119, R126). -/
def Display.stop (d : Display) (toStarting : Bool) : Display :=
  { d with state := .stopping, holdPending := false, stopToStarting := toStarting }

/-- A profile load (R126): `L` and `on` are the profile's timing and output enable, and `shown` is the picture on the
monitor. -/
def Display.load (d : Display) (on : Bool) (L : Timing) (now : Nat) (shown : Option Screen) : Display :=
  let differs := decide (L ≠ d.current)
  let stagedL := if differs then some L else none
  let e := { d with enable := on, holdPending := false, staged := none }
  match d.state, on with
  | .off, true => Display.enterStarting { e with current := L } now
  | .off, false => { e with current := L }
  | .starting, true => if differs then Display.enterStarting { e with current := L } now else e
  | .starting, false => { e.enterOff shown with current := L }
  | .hold, false => { e.enterOff shown with current := L }
  | .running, true => if differs then Display.stop { e with staged := some L } true else e
  | .running, false => Display.stop { e with staged := stagedL } false
  | .hold, true => if differs then Display.enterStarting { e with current := L } now else e
  | .stopping, true => { e with stopToStarting := true, staged := stagedL }
  | .stopping, false => { e with stopToStarting := false, staged := stagedL }

/-- The timing a profile save records (R126). -/
def Display.savedTiming (d : Display) : Timing := d.staged.getD d.current

end Sys2Proof.Machine
end

