-- ==== Sys2Proof/Machine/Selection.lean ====
section
/-! DEFINITION. Machine/Selection.lean: the view selector (chapter 9): terms, entry states, release timers, the active
choice and the re-evaluation. -/
namespace Sys2Proof.Machine

/-- Every term of the entry holds (R142). -/
def EntryConfig.termsHold (e : Sys2Proof.EntryConfig) (values : Vector Bool 16) : Bool :=
  e.terms.all fun t => values[t.signal] == t.wanted

/-- Any signal of the entry's reload set is true (R144). -/
def EntryConfig.reloadTrue (e : Sys2Proof.EntryConfig) (values : Vector Bool 16) : Bool :=
  (List.finRange 16).any fun i => e.reload.getLsbD i && values[i]

/-- Milliseconds since the activation, on the 32-bit time base (R143). -/
def elapsedMs (timeBase activation : Nat) : Nat := (timeBase + 4294967296 - activation) % 4294967296

/-- The release time R of an entry whose terms no longer hold (R143): `active` says that the entry is the active choice
as it stood before the re-evaluation, and `elapsed` the time since its activation. -/
def releaseTime (e : Sys2Proof.EntryConfig) (active : Bool) (elapsed : Nat) : Nat :=
  if active && decide (elapsed < e.dwell) then max e.release (e.dwell - elapsed) else e.release

/-- An entry that begins or goes on releasing with starting value `start` (R144): held at R while a reload signal is true,
running from R once none is; a running timer continues. -/
def releasing (start : Nat) (timer : Option Nat) (reload : Bool) (now : Nat) : EntryState :=
  .releasing start (if reload then none else some (timer.getD (now + millis start)))

/-- The state of an entry after a re-evaluation (R143, R144). -/
def Entry.judge (e : Entry) (values : Vector Bool 16) (active : Bool) (elapsed now : Nat) : Entry :=
  let reload := EntryConfig.reloadTrue e.config values
  { e with state :=
      if EntryConfig.termsHold e.config values then .held
      else match e.state with
        | .idle => .idle
        | .held =>
          let r := releaseTime e.config active elapsed
          if r = 0 then .idle else releasing r none reload now
        | .releasing start timer => releasing start timer reload now }

/-- The entry asks for its view (R142). -/
def Entry.claiming (e : Entry) : Bool :=
  match e.state with
  | .idle => false
  | _ => true

/-- The slot of the table holds a claiming entry. -/
def slotClaims (e : Option Entry) : Bool :=
  match e with
  | some e => e.claiming
  | none => false

/-- The highest-ranked claiming entry among those of index at least `lo` and below `hi` (R146). -/
def firstClaiming (entries : Vector (Option Entry) 16) (lo hi : Nat) : Option (Fin 16) :=
  (List.finRange 16).find? fun i => decide (lo ≤ i.val) && decide (i.val < hi) && slotClaims entries[i]

/-- The highest-ranked claiming item (R146). -/
def Selector.choice (z : Selector) : Choice :=
  match z.override with
  | some o =>
    match firstClaiming z.entries 0 o.rank with
    | some i => .entry i
    | none => .override
  | none =>
    match firstClaiming z.entries 0 16 with
    | some i => .entry i
    | none => .default

/-- The view of a choice (R146). -/
def Selector.viewOf (z : Selector) (c : Choice) : Fin 16 :=
  match c with
  | .entry i => match z.entries[i] with | some e => e.config.view | none => z.defaultView
  | .override => match z.override with | some o => o.view | none => z.defaultView
  | .default => z.defaultView

/-- The active choice recomputed (R146, R147 steps 3 and 4). -/
def Selector.choose (z : Selector) (timeBase : Nat) : Selector :=
  let c := z.choice
  { z with
    active := c
    activation := if c = z.active then z.activation else timeBase
    selected := z.viewOf c }

/-- Every non-empty entry judged (R147 steps 1 and 2). -/
def Selector.judge (z : Selector) (values : Vector Bool 16) (timeBase now : Nat) : Selector :=
  let elapsed := elapsedMs timeBase z.activation
  { z with entries := tabulate fun i =>
      (z.entries[i]).map fun e => e.judge values (decide (z.active = .entry i)) elapsed now }

/-- A re-evaluation (R147). -/
def State.reevaluate (s : State) : State :=
  { s with sel := (s.sel.judge s.sig.values s.timeBase s.clock).choose s.timeBase }

/-- An entry whose state is set IDLE, its timer stopped (R149, R155). -/
def idleEntry (c : Sys2Proof.EntryConfig) : Entry := ⟨c, .idle⟩

/-- The table and default view replaced, every entry IDLE, the override removed (R155); the re-evaluation follows. -/
def Selector.load (z : Selector) (table : Vector (Option Sys2Proof.EntryConfig) 16) (d : Fin 16) : Selector :=
  { z with entries := mapTable (Option.map idleEntry) table, override := none, defaultView := d }

end Sys2Proof.Machine
end

