-- ==== Sys2Proof/Machine/Signals.lean ====
section
/-! DEFINITION. Machine/Signals.lean: the signal unit (chapter 8): debouncers, message and speed signals, the signal
configuration, the hand-off of an event's changes, and wake. -/
namespace Sys2Proof.Machine

/-! ### Wired inputs (R129, R130) -/

/-- A wired input is active (R130). -/
def wireActive (items : WireItems) (d : Debouncer) : Bool :=
  match items.polarity with
  | .activeHigh => d.accepted
  | .activeLow => !d.accepted

/-- Activity of wired input n. -/
def SignalUnit.active (u : SignalUnit) (n : Fin 6) : Bool := wireActive u.config.wires[n] u.wires[n]

/-- A raw change to `level` at the instant `now` (R129). -/
def Debouncer.change (d : Debouncer) (items : WireItems) (level : Bool) (now : Nat) : Debouncer :=
  if items.debounce = 0 then ⟨level, level, none, now⟩
  else if level = d.accepted then ⟨level, d.accepted, none, now⟩
  else ⟨level, d.accepted, some (now + millis items.debounce), now⟩

/-- The debounce timer expires: the accepted level takes the raw level (R129). -/
def Debouncer.expire (d : Debouncer) : Debouncer := { d with accepted := d.raw, timer := none }

/-- The debounce time of a wire changes while its timer may be running (R130): the expiry moves to the last raw change
plus the new time, and a moment that has come accepts the level. -/
def Debouncer.retime (d : Debouncer) (debounce now : Nat) : Debouncer :=
  match d.timer with
  | none => d
  | some _ =>
    if d.lastChange + millis debounce ≤ now then d.expire
    else { d with timer := some (d.lastChange + millis debounce) }

/-- Every WIRE signal takes its wire's activity (R130). -/
def SignalUnit.followWires (u : SignalUnit) : SignalUnit :=
  { u with signals := tabulate fun i =>
      match u.config.signals[i].source with
      | .wire n => { u.signals[i] with value := u.active n }
      | _ => u.signals[i] }

/-! ### Fail rules, messages and speed (R127, R131 to R134) -/

/-- The value a fail rule gives to a signal whose value is `value` (R127). -/
def failValue (rule : FailRule) (value : Bool) : Bool :=
  match rule with
  | .hold => value
  | .setTrue => true
  | .setFalse => false

/-- A signal becomes STALE and takes the value of its fail rule (R127, R134); its timer is no longer running. -/
def SignalRecord.fail (r : SignalRecord) (rule : FailRule) : SignalRecord := ⟨failValue rule r.value, .stale, none⟩

/-- The hysteresis of a SPEED signal (R133). -/
def speedValue (on off speed : Nat) (value : Bool) : Bool :=
  if on ≤ speed then true else if speed ≤ off then false else value

/-- The entries of a SIGNAL_UPDATE are taken (R131). -/
def SignalUnit.takeEntries (u : SignalUnit) (mask values : BitVec 16) (now : Nat) : SignalUnit :=
  { u with signals := tabulate fun i =>
      match u.config.signals[i].source with
      | .message =>
        if mask.getLsbD i then ⟨values.getLsbD i, .fresh, some (now + millis u.config.signals[i].timeout)⟩
        else u.signals[i]
      | _ => u.signals[i] }

/-- A speed is taken (R132, R133). -/
def SignalUnit.takeSpeed (u : SignalUnit) (v : Nat) (now : Nat) : SignalUnit :=
  { u with
    speed := some v
    speedFresh := true
    speedTimer := some (now + millis u.config.speedTimeout)
    signals := tabulate fun i =>
      match u.config.signals[i].source with
      | .speed on off => ⟨speedValue on off v u.signals[i].value, .fresh, none⟩
      | _ => u.signals[i] }

/-- The speed refresh timer expires (R132, R133). -/
def SignalUnit.loseSpeed (u : SignalUnit) : SignalUnit :=
  { u with
    speedFresh := false
    speedTimer := none
    signals := tabulate fun i =>
      match u.config.signals[i].source with
      | .speed _ _ => u.signals[i].fail u.config.signals[i].failRule
      | _ => u.signals[i] }

/-- The refresh timer of signal `n` expires (R134). -/
def SignalUnit.expireSignal (u : SignalUnit) (n : Fin 16) : SignalUnit :=
  { u with signals := u.signals.set n (u.signals[n].fail u.config.signals[n].failRule) }

/-! ### Configuration (R136, R140) -/

/-- Whether two sources are of one kind, and of one wire if WIRE (R136). -/
def sameSource (a b : Source) : Bool :=
  match a, b with
  | .wire n, .wire m => n == m
  | .message, .message => true
  | .speed _ _, .speed _ _ => true
  | _, _ => false

/-- A reinitialised signal (R136); `u` has the new configuration and the wires as the event leaves them. -/
def SignalUnit.reinitialise (u : SignalUnit) (items : SignalItems) (r : SignalRecord) : SignalRecord :=
  match items.source with
  | .wire n => ⟨u.active n, .none, none⟩
  | .message => r.fail items.failRule
  | .speed on off =>
    match u.speedFresh, u.speed with
    | true, some v => ⟨speedValue on off v false, .fresh, none⟩
    | _, _ => r.fail items.failRule

/-- A signal whose source kind and wire stay: new thresholds act on a FRESH speed, and a new fail rule on a STALE signal
(R136). -/
def SignalUnit.adjust (u : SignalUnit) (before items : SignalItems) (r : SignalRecord) : SignalRecord :=
  match items.source, u.speedFresh, u.speed with
  | .wire n, _, _ => { r with value := u.active n }
  | .speed on off, true, some v =>
    if before.source = items.source then r else { r with value := speedValue on off v r.value }
  | _, _, _ =>
    if r.freshness = .stale ∧ before.failRule ≠ items.failRule then { r with value := failValue items.failRule r.value }
    else r

/-- An accepted signal configuration takes effect whole (R130, R136). A profile load acts as an accepted SET_SIGNAL_CONFIG,
and R140's table says at once that it keeps the debouncers: that a load moves a running debounce timer, or accepts the level,
as R130 states is the model's reading (DEDUCED, assumption 35). -/
def SignalUnit.configure (u : SignalUnit) (c : SignalConfig) (now : Nat) : SignalUnit :=
  let wires := tabulate fun i =>
    if u.config.wires[i].debounce = c.wires[i].debounce then u.wires[i] else u.wires[i].retime c.wires[i].debounce now
  let v := { u with config := c, wires := wires }
  { v with signals := tabulate fun i =>
      if sameSource u.config.signals[i].source c.signals[i].source then
        v.adjust u.config.signals[i] c.signals[i] u.signals[i]
      else v.reinitialise c.signals[i] u.signals[i] }

/-- The signal unit after power-on reset and soft reset with configuration `c` (R129, R132, R140). -/
def SignalUnit.restart (u : SignalUnit) (c : SignalConfig) : SignalUnit :=
  let wires := mapTable (fun d : Debouncer => { d with accepted := d.raw, timer := none }) u.wires
  let v : SignalUnit := ⟨c, u.signals, wires, none, false, none, false⟩
  { v with signals := mapTable (fun items => v.reinitialise items ⟨false, .none, none⟩) c.signals }

/-! ### Hand-off and wake (R135, R139) -/

/-- The changes of an event are handed on: the selector re-evaluates once if any signal changed, and the display output
receives the moving signal becoming true (R135); `before` is the signal unit before the event. -/
def State.handOn (s : State) (before : SignalUnit) : State :=
  let s := if s.sig.values = before.values then s else s.reevaluate
  if !before.movingValue && s.sig.movingValue then { s with disp := s.disp.onMoving s.clock } else s

/-- The part wakes (R139, R22, R125): no effect in AWAKE. -/
def State.wake (s : State) : State :=
  if s.sig.standby then
    State.pulse { s with
      sig := { s.sig with standby := false }
      cams := mapTable (fun c => c.wake s.clock) s.cams
      disp := if s.disp.enable && s.disp.state == .off then s.disp.takeStaged.enterStarting s.clock else s.disp }
      itemWoke
  else s

/-- A wired input of the wake set became active in the event (R139). -/
def wireWakes (before after : SignalUnit) : Bool :=
  (List.finRange 6).any fun n => !before.active n && after.active n && after.config.wakeSet.getLsbD n

/-- An event of the signal unit has left it as `u`: a wake-set activation wakes the part, and the changes are handed on
(R135, R139). -/
def State.signalEvent (s : State) (u : SignalUnit) : State :=
  let before := s.sig
  let s := { s with sig := u }
  State.handOn (if wireWakes before u then s.wake else s) before

end Sys2Proof.Machine
end

