-- ==== Sys2Proof/Machine/Meshes.lean ====
section
/-! DEFINITION. Machine/Meshes.lean: the mesh store (chapter 4): the node charge, the meshes in use, and the answers to
its requests. -/
namespace Sys2Proof.Machine

/-- The node pool (R61). -/
def poolNodes : Nat := 6144

/-- The inactivity time in milliseconds (R63). -/
def inactivityMs : Nat := 1000

/-- The nodes a slot charges to the pool (R60). -/
def MeshSlot.charge : MeshSlot → Nat
  | .free => 0
  | .loading cols rows _ => cols * rows
  | .ready m => m.cols * m.rows

/-- The node charge of the store (R61). -/
def MeshStore.charge (m : MeshStore) : Nat := (m.slots.toList.map MeshSlot.charge).sum

/-- The number of free nodes (R61). -/
def MeshStore.freeNodes (m : MeshStore) : Nat := poolNodes - m.charge

/-- A tile names the slot in a MESH mapping (R70). -/
def Tile.namesSlot (t : Tile) (slot : Fin 8) : Bool :=
  match t.mapping with
  | .mesh n => n == slot
  | .linear .. => false

/-- The tiles of the selected view (R70, R148). -/
def State.selectedTiles (s : State) : List Tile :=
  match s.views[s.sel.selected] with
  | some v => v.tiles
  | none => []

/-- A mesh slot is in use: a MESH tile of the latched view or of the selected view names it (R70). -/
def State.meshInUse (s : State) (slot : Fin 8) : Bool :=
  (s.comp.latchedTiles.any fun t => Tile.namesSlot t slot) || (s.selectedTiles.any fun t => Tile.namesSlot t slot)

/-- The store with a slot replaced. -/
def MeshStore.put (m : MeshStore) (slot : Fin 8) (x : MeshSlot) : MeshStore := { m with slots := m.slots.set slot x }

/-- The upload in progress ends and its slot becomes FREE (R67, R68, R69). -/
def MeshStore.endUpload (m : MeshStore) (slot : Fin 8) : MeshStore := { m.put slot .free with upload := none }

/-- A sequence abort (R67). -/
def State.abortUpload (s : State) (slot : Fin 8) : Answer :=
  ⟨State.queueError { s with mesh := s.mesh.endUpload slot } .meshSequence slot, .sequence, .nothing⟩

/-- MESH_BEGIN (R64). -/
def answerMeshBegin (slot cols rows : Nat) (s : State) : Answer :=
  match asIndex 8 slot with
  | none => refuse s .badValue
  | some i =>
    if !(within cols 3 41 && within rows 3 26) then refuse s .badValue
    else if s.mesh.upload.isSome then refuse s .busy
    else if s.meshInUse i then refuse s .inUse
    else if s.mesh.charge - s.mesh.slots[i].charge + cols * rows > poolNodes then refuse s .noSpace
    else
      let m := { s.mesh.put i (.loading cols rows []) with
        upload := some ⟨i, 0, s.clock + millis inactivityMs⟩ }
      accept { s with mesh := m } (.freeNodes m.freeNodes)

/-- MESH_ROWS (R65). -/
def answerMeshRows (slot row : Nat) (nodes : List Node) (s : State) : Answer :=
  match asIndex 8 slot with
  | none => refuse s .badValue
  | some i =>
    match s.mesh.upload, s.mesh.slots[i] with
    | some u, .loading cols rows held =>
      if u.slot ≠ i then refuse s .wrongState
      else if row ≠ u.nextRow ∨ rows ≤ u.nextRow ∨ nodes.length ≠ cols then s.abortUpload i
      else
        let m := { s.mesh.put i (.loading cols rows (held ++ [nodes])) with
          upload := some ⟨i, u.nextRow + 1, s.clock + millis inactivityMs⟩ }
        accept { s with mesh := m } (.nextRow (u.nextRow + 1))
    | _, _ => refuse s .wrongState

/-- MESH_END (R66). -/
def answerMeshEnd (slot : Nat) (s : State) : Answer :=
  match asIndex 8 slot with
  | none => refuse s .badValue
  | some i =>
    match s.mesh.upload, s.mesh.slots[i] with
    | some u, .loading cols rows held =>
      if u.slot ≠ i then refuse s .wrongState
      else if u.nextRow < rows then s.abortUpload i
      else
        let m := { s.mesh.put i (.ready ⟨cols, rows, held⟩) with upload := none }
        accept { s with mesh := m } (.freeNodes m.freeNodes)
    | _, _ => refuse s .wrongState

/-- MESH_FREE (R69). -/
def answerMeshFree (slot : Nat) (s : State) : Answer :=
  match asIndex 8 slot with
  | none => refuse s .badValue
  | some i =>
    if s.meshInUse i then refuse s .inUse
    else
      let m := match s.mesh.slots[i] with
        | .free => s.mesh
        | .ready _ => s.mesh.put i .free
        | .loading _ _ _ => s.mesh.endUpload i
      accept { s with mesh := m } (.freeNodes m.freeNodes)

/-- The inactivity deadline of the upload expires (R68). -/
def State.abandonUpload (s : State) (u : Upload) : State :=
  State.queueError (State.pulse { s with mesh := s.mesh.endUpload u.slot } itemMeshAbandoned) .meshAbandoned u.slot

/-- A mesh slot as a profile records it (R72). -/
def MeshSlot.saved : MeshSlot → Option Mesh
  | .ready m => some m
  | _ => none

/-- A mesh slot as a profile loads it (R72). -/
def meshSlotOf : Option Mesh → MeshSlot
  | some m => .ready m
  | none => .free

/-- The store as a profile leaves it (R72). -/
def loadedMeshes (meshes : Vector (Option Mesh) 8) : MeshStore := ⟨mapTable meshSlotOf meshes, none⟩

end Sys2Proof.Machine
end

