-- ==== Sys2Proof/Machine/Views.lean ====
section
/-! DEFINITION. Machine/Views.lean: the view table's requests (chapter 5), and the selector's requests and reports
(chapter 9.4 to 9.6). -/
namespace Sys2Proof.Machine

/-- A view number is in range and its view is defined. -/
def State.definedView (s : State) (n : Fin 16) : Bool := (s.views[n]).isSome

/-- The table with a view replaced. -/
def State.putView (s : State) (n : Fin 16) (v : Option View) : State := { s with views := s.views.set n v }

/-- A view is referenced: default, override, selected, latched, or named by a non-empty entry (R80 step 3). -/
def State.viewReferenced (s : State) (n : Fin 16) : Bool :=
  s.sel.defaultView == n || (s.sel.override.map Override.view == some n) || s.sel.selected == n ||
  s.comp.latchedView == some n || s.sel.entries.toList.any fun e => e.map (fun e => e.config.view) == some n

/-- DEFINE_VIEW (R76, R77). -/
def answerDefineView (view : Nat) (tiles : List TileFields) (s : State) : Answer :=
  match asIndex 16 view, tilesOf tiles s.cams with
  | some n, some ts => accept (s.putView n (some ⟨ts, ((s.views[n]).map View.overlays).getD []⟩)) .nothing
  | _, _ => refuse s .badValue

/-- OVERLAY_CLEAR (R87). -/
def answerOverlayClear (view : Nat) (s : State) : Answer :=
  match asIndex 16 view with
  | none => refuse s .badValue
  | some n =>
    match s.views[n] with
    | none => refuse s .notFound
    | some v => accept (s.putView n (some { v with overlays := [] })) .nothing

/-- OVERLAY_APPEND (R86). -/
def answerOverlayAppend (view : Nat) (prims : List PrimFields) (s : State) : Answer :=
  match asIndex 16 view with
  | none => refuse s .badValue
  | some n =>
    match s.views[n], primsOf prims with
    | none, _ => refuse s .notFound
    | some _, none => refuse s .badValue
    | some v, some ps =>
      let list := v.overlays ++ ps
      if list.length > 24 ∨ totalCost list > 48 then refuse s .noSpace
      else accept (s.putView n (some { v with overlays := list })) (.overlaySize list.length (totalCost list))

/-- DELETE_VIEW (R80). -/
def answerDeleteView (view : Nat) (s : State) : Answer :=
  match asIndex 16 view with
  | none => refuse s .badValue
  | some n =>
    if !s.definedView n then refuse s .notFound
    else if s.viewReferenced n then refuse s .inUse
    else accept (s.putView n none) .nothing

/-- READ_VIEW (R81). -/
def answerReadView (view : Nat) (part : ViewPart) (s : State) : Answer :=
  match asIndex 16 view with
  | none => refuse s .badValue
  | some n =>
    match part, s.views[n] with
    | .unknown, _ => refuse s .badValue
    | .tiles, none => accept s .viewUndefined
    | .tiles, some v => accept s (.viewTiles v.tiles v.overlays.length (totalCost v.overlays))
    | .overlays k, none => if 24 ≤ k then refuse s .badValue else accept s .viewUndefined
    | .overlays k, some v =>
      if 24 ≤ k then refuse s .badValue
      else accept s (.viewOverlays v.overlays.length (totalCost v.overlays) ((v.overlays.drop k).take 8))

/-! ### The selector's requests -/

/-- SET_SELECTION_ENTRY (R149). -/
def answerSetEntry (entry : Nat) (fields : EntryFields) (s : State) : Answer :=
  match asIndex 16 entry, EntryFields.asEntry fields with
  | some i, some e =>
    if !s.definedView e.view then refuse s .notFound
    else accept (State.reevaluate { s with sel := { s.sel with
      entries := s.sel.entries.set i (some (idleEntry e)) } }) .nothing
  | _, _ => refuse s .badValue

/-- CLEAR_SELECTION_ENTRY (R150). -/
def answerClearEntry (entry : Nat) (s : State) : Answer :=
  match asIndex 16 entry with
  | none => refuse s .badValue
  | some i => accept (State.reevaluate { s with sel := { s.sel with entries := s.sel.entries.set i none } }) .nothing

/-- SET_DEFAULT_VIEW (R151). -/
def answerSetDefault (view : Nat) (s : State) : Answer :=
  match asIndex 16 view with
  | none => refuse s .badValue
  | some n =>
    if !s.definedView n then refuse s .notFound
    else accept (State.reevaluate { s with sel := { s.sel with defaultView := n } }) .nothing

/-- OVERRIDE_VIEW (R152). -/
def answerOverride (view rank duration : Nat) (s : State) : Answer :=
  match asIndex 16 view with
  | none => refuse s .badValue
  | some n =>
    if 16 < rank then refuse s .badValue
    else if !s.definedView n then refuse s .notFound
    else
      let d := overrideDuration duration
      let timer := if d = 0 then none else some (s.clock + millis d)
      accept (State.reevaluate { s with sel := { s.sel with override := some ⟨n, rank, d, timer⟩ } }) .nothing

/-- The override is removed and the selector re-evaluates (R153). -/
def State.endOverride (s : State) : State := State.reevaluate { s with sel := { s.sel with override := none } }

/-- CANCEL_OVERRIDE (R153). -/
def answerCancelOverride (s : State) : Answer :=
  if s.sel.override.isSome then accept s.endOverride .nothing else refuse s .notFound

/-- The SUMMARY part of READ_SELECTION (R154). -/
def State.selectionSummary (s : State) : SelectionSummary where
  defaultView := s.sel.defaultView
  override := s.sel.override.map fun o => ⟨o.view, o.rank, o.duration, msLeft o.timer s.clock⟩
  active := s.sel.active
  activation := s.sel.activation
  selected := s.sel.selected
  latchedView := s.comp.latchedView
  tileFault := s.comp.tileFault
  framesComposed := s.comp.framesComposed
  repeats := s.comp.repeats
  output := s.disp.report
  outputEnable := s.disp.enable
  framesShown := s.disp.framesShown
  framesRepeated := s.disp.framesRepeated

/-- The time a RELEASING entry has left: a held timer stands at R (R144, R154). -/
def Entry.remaining (e : Entry) (now : Nat) : Option Nat :=
  match e.state with
  | .releasing start timer => some ((msLeft timer now).getD start)
  | _ => none

/-- The ENTRIES part of READ_SELECTION from index k (R154). -/
def State.entryReports (s : State) (k : Nat) : List (Option EntryReport) :=
  ((s.sel.entries.toList.drop k).take 4).map fun e => e.map fun e => ⟨e.config, e.state, e.remaining s.clock⟩

/-- READ_SELECTION (R154). -/
def answerReadSelection (part : SelectionPart) (s : State) : Answer :=
  match part with
  | .summary => accept s (.selection s.selectionSummary)
  | .entries k => if 16 ≤ k then refuse s .badValue else accept s (.entries (s.entryReports k))
  | .unknown => refuse s .badValue

end Sys2Proof.Machine
end

