-- ==== Sys2Proof/Machine/Profiles.lean ====
section
/-! DEFINITION. Machine/Profiles.lean: the profile store (chapter 10.4), the resets of the whole part (chapter 10.5 and
each chapter's reset rule), the profile load and standby entry. -/
namespace Sys2Proof.Machine

/-! ### Snapshot and slots (R162, R163) -/

/-- The snapshot of the whole configuration (R162). -/
def State.snapshot (s : State) : Profile where
  ports := mapTable (fun c => c.port.config) s.cams
  meters := mapTable (fun c => c.meter.config) s.cams
  meshes := mapTable MeshSlot.saved s.mesh.slots
  views := s.views
  table := mapTable (Option.map Entry.config) s.sel.entries
  defaultView := s.sel.defaultView
  signals := s.sig.config
  outputEnable := s.disp.enable
  timing := s.disp.savedTiming
  enableMask := s.sts.enable

/-- A slot written with a verified profile (R163). -/
def validSlot (p : Profile) : ProfileSlot := .valid p (Config.profileCheck p)

/-- The contents of a VALID slot still give its check code (R162). -/
def checkPasses (p : Profile) (check : BitVec 16) : Bool := Config.profileCheck p == check

/-- The state with a profile slot replaced. -/
def State.putProfile (s : State) (n : Fin 4) (x : ProfileSlot) : State :=
  { s with prf := { s.prf with slots := s.prf.slots.set n x } }

/-- PROFILE_FAULT for slot n: the pulse and the error entry (R162). -/
def State.profileFault (s : State) (n : Fin 4) : State := (s.pulse itemProfileFault).queueError .profileFault n

/-- A save in progress is cut off or abandoned: its slot becomes INVALID (R162, R165). -/
def State.cutSave (s : State) : State :=
  match s.prf.save with
  | some v => { s with prf := ⟨s.prf.slots.set v.slot .invalid, none⟩ }
  | none => s

/-- The slot's state as READ_CONDITIONS reports it (R158). -/
def ProfileSlot.kind : ProfileSlot → SlotState
  | .empty => .empty
  | .valid _ _ => .valid
  | .invalid => .invalid

/-- SAVE_PROFILE (R163). -/
def answerSaveProfile (slot : Nat) (s : State) : Answer :=
  match asIndex 4 slot with
  | none => refuse s .badValue
  | some n =>
    if s.prf.save.isSome then refuse s .busy
    else accept { s with prf := { s.prf with save := some ⟨n, s.snapshot⟩ } } .nothing

/-- The write completes (R163). -/
def State.completeSave (s : State) (v : Save) (verified : Bool) : State :=
  let s := { s with prf := { s.prf with save := none } }
  if verified then (s.putProfile v.slot (validSlot v.snapshot)).pulse itemProfileSaved
  else (s.putProfile v.slot .invalid).profileFault v.slot

/-! ### Resets (R20, R43, R59, R72, R94, R114, R125, R140, R155, R165, R166) -/

/-- A camera after power-on reset and soft reset with its part of the configuration (R20, R43, R59); the carrier detect
input is the surroundings'. -/
def Cam.restart (c : Cam) (config : PortConfig) (meter : MeterItems) (now : Nat) : Cam :=
  let port := { resetPort with
    config := config, carrier := c.port.carrier, link := if config.enabled then .down else .disabled }
  { port := if config.enabled then port.examineCarrier now else port
    ring := Ring.flushed config.items now config.enabled
    meter := ⟨meter, clampNat 128 meter.gainMin meter.gainMax, 0, []⟩ }

/-- The display output after power-on reset and soft reset (R125); in OFF the picture on the monitor stays (R116). -/
def restartedDisplay (on : Bool) (timing : Timing) (now : Nat) (shown : Option Screen) : Display :=
  let d : Display := ⟨.off, on, timing, none, false, false, none, none, none, .nothing, none, shown, 0, 0⟩
  if on then d.enterStarting now else d

/-- Every block but the status unit, the profile store and the link port takes its part of the configuration and its
reset state (R165, R166); the selector re-evaluates with the reset's time as activation time (R155). -/
def State.restartBlocks (s : State) (p : Profile) : State :=
  let sig := s.sig.restart p.signals
  let z : Selector := ⟨mapTable (Option.map idleEntry) p.table, none, p.defaultView, .default, s.timeBase, p.defaultView⟩
  { s with
    cams := tabulate fun i => (s.cams[i]).restart p.ports[i] p.meters[i] s.clock
    mesh := loadedMeshes p.meshes
    views := p.views
    sig := sig
    sel := (z.judge sig.values s.timeBase s.clock).choose s.timeBase
    comp := ⟨none, none, false, 0, 0⟩
    disp := restartedDisplay p.outputEnable p.timing s.clock s.screen }

/-- The configuration the part starts from, whether slot 0 is found corrupt, and whether PROFILE_FAULT is given (R165). -/
def startConfiguration (slot : ProfileSlot) : Profile × Bool × Bool :=
  match slot with
  | .valid p check => if checkPasses p check then (p, false, false) else (factoryProfile, true, true)
  | .invalid => (factoryProfile, false, true)
  | .empty => (factoryProfile, false, false)

/-- The status unit at the end of a reset (R166): the conditions enter without latching, RESTARTED is latched, then a
PROFILE_FAULT of R165 with its error entry; ATTN is recomputed. -/
def State.restartStatus (s : State) (fault : Bool) : State :=
  let s := State.pulse { s with sts := { s.sts with conditions := s.conditionsNow } } itemRestarted
  State.settle (if fault then s.profileFault 0 else s)

/-- The link port's receiver in HUNT with no frame (R167). -/
def huntReceiver : Receiver := ⟨.hunt, [], none⟩

/-- Six counters at zero (R177). -/
def zeroLinkCounters : LinkCounters := ⟨0, 0, 0, 0, 0, 0⟩

/-- Power-on reset (R165, R166, R167): the time base starts at zero, the straps are read, a write cut off by the loss of
power leaves its slot INVALID, no picture is left on the monitor (assumption 24), and every block starts from the chosen
configuration. -/
def State.powerOn (s : State) (rate : Fin 4) : State :=
  let s := s.cutSave
  let c := startConfiguration s.prf.slots[0]
  let s := if c.2.1 then s.putProfile 0 .invalid else s
  let s := { s with
    powered := true
    clock := 0
    disp := { s.disp with sending := .nothing, shown := none }
    sts := ⟨0, 0, c.1.enableMask, false, []⟩
    link := ⟨rate, huntReceiver, none, false, .idle, 0, zeroLinkCounters⟩ }
  (s.restartBlocks c.1).restartStatus c.2.2

/-- Soft reset (R165, R166, R178): the time base runs on, a save in progress is abandoned, and the event set, the enable
mask, the error queue, the line rate and notice pending are kept. -/
def State.softReset (s : State) : State :=
  let s := s.cutSave
  let c := startConfiguration s.prf.slots[0]
  let s := if c.2.1 then s.putProfile 0 .invalid else s
  let s := { s with link := { s.link with
    rx := huntReceiver, owed := none, tx := .idle, counters := zeroLinkCounters } }
  (s.restartBlocks c.1).restartStatus c.2.2

/-! ### Standby entry (R138) -/

/-- Every block's standby entry (R22, R102, R125, R138). -/
def State.enterStandby (s : State) : State :=
  State.discardContext { s with
    cams := mapTable (fun c => if c.port.config.enabled then c.enterStandby s.clock else c) s.cams
    disp := s.disp.enterOff s.screen
    sig := { s.sig with standby := true } }

/-- ENTER_STANDBY (R138). -/
def answerEnterStandby (s : State) : Answer :=
  if s.sig.movingValue then refuse s .notWhileMoving else accept s.enterStandby .nothing

/-! ### Profile load (R164) -/

/-- How a port acts on a loaded configuration (R23). -/
inductive LoadAction where
  | enable
  | stay
  | retrain
  | disable
deriving DecidableEq, Repr

/-- The table of R23: the port's state before the load and *enabled* in the profile. -/
def loadAction (link : LinkState) (enabled : Bool) : LoadAction :=
  match link, enabled with
  | .disabled, true => .enable
  | .disabled, false => .stay
  | .down, true => .stay
  | _, true => .retrain
  | _, false => .disable

/-- A camera after its part of a loaded profile (R23, R59): the configuration is taken first. -/
def Cam.load (c : Cam) (config : PortConfig) (meter : MeterItems) (now : Nat) : Cam :=
  let d : Cam := { c with port := { c.port with config := config }, meter := c.meter.load meter }
  match loadAction c.port.link config.enabled with
  | .enable => d.enable now
  | .stay => if config.enabled then { d with port := d.port.examineCarrier now } else d
  | .retrain => d.retrain now
  | .disable => d.disable now

/-- The load flushes camera `i`'s ring (R23, R42). -/
def loadFlushes (link : LinkState) (enabled : Bool) : Bool :=
  match loadAction link enabled with
  | .retrain => true
  | .disable => true
  | _ => false

/-- Camera `i` takes its part of the profile; a flushed ring withdraws the composer's reference (R32). -/
def State.loadCam (s : State) (p : Profile) (i : Fin 4) : State :=
  let c := s.cams[i]
  let t := if loadFlushes c.port.link p.ports[i].enabled then s.withdrawSlot i else s
  t.setCam i (c.load p.ports[i] p.meters[i] s.clock)

/-- The selector after a profile load (R155): the choice in force before the load is the one noted. -/
def State.loadSelector (s : State) (p : Profile) : State :=
  State.reevaluate { s with sel := s.sel.load p.table p.defaultView }

/-- An accepted load of profile `p` (R164): the composer's mesh use and latched view end, the cameras act, the mesh store
and view table are replaced, the signal unit and the selector take theirs with one re-evaluation, the display output acts
as R126 states and then receives the moving signal becoming true (R135), and the enable mask is replaced. -/
def State.loadProfile (s : State) (p : Profile) : State :=
  let before := s.sig
  let shown := s.screen
  let s := s.advanceDrawing.withdrawMeshes
  let s := (((s.loadCam p 0).loadCam p 1).loadCam p 2).loadCam p 3
  let s := { s with
    mesh := loadedMeshes p.meshes
    views := p.views
    sig := s.sig.configure p.signals s.clock }
  let s := s.loadSelector p
  let disp := s.disp.load p.outputEnable p.timing s.clock shown
  { s with
    disp := if !before.movingValue && s.sig.movingValue then disp.onMoving s.clock else disp
    sts := { s.sts with enable := p.enableMask } }

/-- LOAD_PROFILE (R164). -/
def answerLoadProfile (slot : Nat) (s : State) : Answer :=
  match asIndex 4 slot with
  | none => refuse s .badValue
  | some n =>
    if s.prf.save.isSome then refuse s .busy
    else match s.prf.slots[n] with
      | .valid p check =>
        if !checkPasses p check then ⟨(s.putProfile n .invalid).profileFault n, .notFound, .nothing⟩
        else if s.sig.movingValue then refuse s .notWhileMoving
        else accept (s.loadProfile p) .nothing
      | _ => refuse s .notFound

end Sys2Proof.Machine
end

