-- ==== Sys2Proof/Machine/Links.lean ====
section
/-! DEFINITION. Machine/Links.lean: the control link port (chapter 11): the receiver, collisions, the taking of a request
frame, replies and notices. -/
namespace Sys2Proof.Machine

/-! ### The receiver (R169) -/

/-- What the arrival of a byte leads to (R169). -/
inductive RxEvent where
  | quiet
  | framingFault (detail : Nat)
  | checkFault (type : Byte)
  | validFrame
deriving DecidableEq, Repr

/-- The START byte (R168). -/
def startByte : Byte := 0xC5#8

/-- The gap time in milliseconds (R169). -/
def gapMs : Nat := 2

/-- The idle time before a notice in milliseconds (R172). -/
def noticeIdleMs : Nat := 3

/-- The bytes a frame's CHECK covers: LEN to the end of PAYLOAD (R168). -/
def checkedBytes (bytes : List Byte) : List Byte := (bytes.drop 1).take (bytes.length - 3)

/-- A whole frame's CHECK is the computed check (R168, R169). -/
def checkMatches (bytes : List Byte) : Bool :=
  decide (bytesOfWord (crc16 (checkedBytes bytes)) = bytes.drop (bytes.length - 2))

/-- A byte arrives at the instant `now`, with or without a stop-bit fault (R169). -/
def Receiver.takeByte (r : Receiver) (b : Byte) (stopFault : Bool) (now : Nat) : Receiver × RxEvent :=
  let kept := r.bytes ++ [b]
  let gap := some (now + millis gapMs)
  match r.state, stopFault with
  | .hunt, true => (huntReceiver, .quiet)
  | .hunt, false => if b = startByte then (⟨.length, [b], none⟩, .quiet) else (huntReceiver, .quiet)
  | _, true => (huntReceiver, .framingFault (min r.bytes.length 255))
  | .length, false =>
    if within b.toNat 2 250 then (⟨.body, kept, gap⟩, .quiet) else (huntReceiver, .framingFault 0)
  | .body, false =>
    let len := ((kept[1]?).getD 0).toNat
    if kept.length = 2 + len then (⟨.check, kept, gap⟩, .quiet) else (⟨.body, kept, gap⟩, .quiet)
  | .check, false =>
    let len := ((kept[1]?).getD 0).toNat
    if kept.length < 4 + len then (⟨.check, kept, gap⟩, .quiet)
    else (huntReceiver, if checkMatches kept then .validFrame else .checkFault ((kept[2]?).getD 0))

/-! ### Replies and collisions (R171, R173) -/

/-- The request types of the catalogue (R175). -/
def requestTypes : List Byte :=
  [0x01#8, 0x02#8, 0x10#8, 0x11#8, 0x12#8, 0x13#8, 0x14#8, 0x18#8, 0x20#8, 0x21#8, 0x22#8, 0x23#8, 0x28#8, 0x29#8,
   0x2A#8, 0x2B#8, 0x2C#8, 0x30#8, 0x31#8, 0x32#8, 0x33#8, 0x34#8, 0x35#8, 0x38#8, 0x39#8, 0x3A#8, 0x3B#8, 0x40#8,
   0x41#8, 0x42#8, 0x43#8, 0x44#8, 0x48#8, 0x49#8, 0x4A#8, 0x4B#8, 0x50#8, 0x51#8]

/-- The type of a reply: the request's type with its most significant bit set (R171). -/
def replyType (type : Byte) : Byte := type ||| 0x80#8

/-- The TYPE of a STATUS_NOTICE (R174). -/
def noticeType : Byte := 0x7E#8

/-- The reply is owed to an accepted RESET_PART (R178). -/
def Reply.resets (r : Reply) : Bool := r.type == replyType 0x02#8 && r.code == .ok

/-- The part drives or owes something on the line, so that a controller byte is a collision (R173). -/
def LinkPort.engaged (l : LinkPort) : Bool := l.owed.isSome || l.tx != .idle

/-- The end of an owed reply, sent or dropped: a soft reset that waits for it takes effect (R171, R173, R178). -/
def State.afterReply (s : State) (r : Reply) : State := if r.resets then s.softReset else s

/-- A collision (R173): the reply or the notice is dropped, the error is queued and the receiver is set to HUNT. -/
def State.collide (s : State) : State :=
  match s.link.owed with
  | some r =>
    let s := State.queueError { s with link := { s.link with
      owed := none, tx := .idle, rx := huntReceiver
      counters := { s.link.counters with repliesDropped := bump s.link.counters.repliesDropped } } }
      .linkCollision r.type.toNat
    State.afterReply s.settle r
  | none =>
    State.settle (State.queueError { s with link := { s.link with
      tx := .idle, rx := huntReceiver
      counters := { s.link.counters with noticesDropped := bump s.link.counters.noticesDropped } } }
      .linkCollision noticeType.toNat)

/-- A byte of the vehicle controller begins to arrive: while a reply is owed or anything is being sent it is a collision,
which is an event of its own before the one its frame makes (R173, R178, assumption 9). -/
def State.controllerByte (s : State) : State := if s.link.engaged then s.collide else s

/-- A byte of the vehicle controller is received (R169, R173): it may collide first; then the receiver takes it, and its stop
bit is the last one on the line (R172). -/
def State.receiveByte (s : State) (b : Byte) (stopFault : Bool) : State × RxEvent :=
  let t := s.controllerByte
  let x := t.link.rx.takeByte b stopFault t.clock
  ({ t with link := { t.link with rx := x.1, lastStop := t.clock } }, x.2)

/-- Bytes received one after the other without a fault or the end of a frame, or none if one of them leads to one. -/
def State.receiveQuiet (s : State) : List Byte → Option State
  | [] => some s
  | b :: rest =>
    match s.receiveByte b false with
    | (t, .quiet) => t.receiveQuiet rest
    | _ => none

/-- Bytes received, and what a last one after them leads to. -/
def State.receiveLast (s : State) (bytes : List Byte) (last : Byte) (stopFault : Bool) : Option (State × RxEvent) :=
  (s.receiveQuiet bytes).map fun t => t.receiveByte last stopFault

/-! ### A request frame is taken (R170) -/

/-- The reply owed to a request, as it stands at the end of the event (R170, R171). -/
def State.owe (s : State) (type : Byte) (h : Header) (code : ResultCode) (data : ReplyData) : State :=
  { s with link := { s.link with owed := some ⟨replyType type, h.tag, code, data, s.clock⟩ } }

/-- A valid frame arrives: its first byte may collide, the receiver ends in HUNT, *frames received* advances, and a part
in standby wakes before the request is handled (R139, R170 step 1). -/
def State.frameArrives (s : State) : State :=
  let s := s.controllerByte
  let s := { s with link := { s.link with
    rx := huntReceiver
    lastStop := s.clock
    counters := { s.link.counters with framesReceived := bump s.link.counters.framesReceived } } }
  if s.sig.standby then s.wake.settle else s

/-- The answer of the owner becomes the reply owed, and the event ends (R170). -/
def Answer.finish (a : Answer) (type : Byte) (h : Header) : State := (a.state.owe type h a.code a.data).settle

/-- A request of the catalogue (R170): BAD_LENGTH when its payload length is not one that 11.6 allows, otherwise what its
owner answers. -/
def request (type : Byte) (h : Header) (lengthOk : Bool) (owner : State → Answer) (s : State) :
    Host.Outcome State Fault Refusal :=
  if s.powered then
    let t := s.frameArrives
    .next (Answer.finish (if lengthOk then owner t else refuse t .badLength) type h)
  else .next s

/-- The one allowed length of a request without counted items (R175). -/
def lengthIs (h : Header) (n : Nat) : Bool := decide (h.len = n)

/-- A length that fits the count byte and the items carried, `base + step * n` with n items, at most 248 (R175). -/
def lengthCounts (h : Header) (base step count items : Nat) : Bool :=
  decide (count = items) && decide (h.len = base + step * items) && decide (h.len ≤ 248)

/-! ### Frames sent (R168, R171, R172, R174) -/

/-- The value of a result code (R171). -/
def ResultCode.value : ResultCode → Nat
  | .ok => 0
  | .unknownType => 1
  | .badLength => 2
  | .badValue => 3
  | .notFound => 4
  | .inUse => 5
  | .noSpace => 6
  | .busy => 7
  | .wrongState => 8
  | .notWhileMoving => 9
  | .sequence => 10

/-- The value of an error code (chapter 10.3). -/
def ErrorCode.value : ErrorCode → Nat
  | .noError => 0
  | .linkCheck => 1
  | .linkFraming => 2
  | .linkGap => 3
  | .linkCollision => 4
  | .meshSequence => 5
  | .meshAbandoned => 6
  | .profileFault => 7
  | .queueOverflow => 8

/-- A frame's bytes (R168). -/
def frameBytes (type tag : Byte) (payload : List Byte) : List Byte :=
  let body := BitVec.ofNat 8 (payload.length + 2) :: type :: tag :: payload
  startByte :: body ++ bytesOfWord (crc16 body)

/-- The payload of a STATUS_NOTICE (R174). -/
def Notice.payload (n : Notice) : List Byte :=
  bytesOfLong n.conditions ++ bytesOfLong n.events ++ bytesOfLong (BitVec.ofNat 32 n.time)

/-- The bytes of a STATUS_NOTICE frame (R168, R174). -/
def Notice.frame (n : Notice) : List Byte := frameBytes noticeType 0 n.payload

/-- The bytes of a reply frame whose payload is its result code alone: a refusal, or an OK without result data (R171). -/
def Reply.bareFrame (r : Reply) : List Byte := frameBytes r.type r.tag [BitVec.ofNat 8 r.code.value]

/-- A character on the line, first bit first: the start bit (low), 8 data bits least significant bit first, no parity, and
the stop bit (high) (R167). -/
def characterBits (b : Byte) : List Bool :=
  [false] ++ (List.finRange 8).map (fun i : Fin 8 => b.getLsbD i) ++ [true]

/-- The bits of a frame on the line: its characters back to back (R167). -/
def lineBits (bytes : List Byte) : List Bool := bytes.flatMap characterBits

/-- The transmitter enable: driven only while the powered part sends (R167). -/
def State.txEnable (s : State) : Bool := s.powered && s.link.tx != .idle

/-- The bit rate of the line (R167). -/
def LinkPort.bitRate (l : LinkPort) : Nat :=
  match l.rate with
  | 0 => 115200
  | 1 => 230400
  | 2 => 460800
  | 3 => 921600

/-- The rate the two strap pins select (R167). -/
def rateOfStraps (a b : Bool) : Fin 4 :=
  match a, b with
  | false, false => 0
  | false, true => 1
  | true, false => 2
  | true, true => 3

/-- A frame is discarded for a reception fault (R169). -/
def State.discardFrame (s : State) (code : ErrorCode) (detail : Nat) : State :=
  State.queueError { s with link := { s.link with
    rx := huntReceiver
    lastStop := s.clock
    counters := { s.link.counters with framesDiscarded := bump s.link.counters.framesDiscarded } } } code detail

/-- Everything R172 asks of the port but the 3 ms: a notice pending, no reply owed, transmitter idle, receiver in HUNT. -/
def LinkPort.noticeReady (l : LinkPort) : Bool :=
  l.noticePending && l.owed.isNone && l.tx == .idle && l.rx.state == .hunt

end Sys2Proof.Machine
end

