-- ==== Sys2Proof/Machine/CameraCommands.lean ====
section
/-! DEFINITION. Machine/CameraCommands.lean: the meanings of the commands of the camera ports, rings and metering units
(chapters 1 to 3). -/
namespace Sys2Proof.Machine

/-! ### Events on a camera link -/

/-- A camera's carrier detect level. -/
def State.setCarrier (s : State) (i : Fin 4) (level : Bool) : State :=
  s.onCam i fun c => { c with port := { c.port with carrier := level } }

/-- R7: carrier present. In DOWN an enabled, powered port begins a sweep; elsewhere only the level is noted. -/
def execCarrierPresent (cam : Fin 4) (s : State) : Host.Outcome State Fault Refusal :=
  if s.powered then
    event s true fun s =>
      let t := s.setCarrier cam true
      if s.cams[cam].port.link = .down ∧ s.cams[cam].port.linkPower = true then
        t.onCam cam fun c => { c with port := c.port.beginSweep s.clock }
      else t
  else .next (s.setCarrier cam true)

/-- R7: carrier lost. In TRAINING, LOCKED or FAILED the port abandons its work, flushes its ring and enters DOWN. -/
def execCarrierLost (cam : Fin 4) (s : State) : Host.Outcome State Fault Refusal :=
  if s.powered then
    event s true fun s =>
      let t := s.setCarrier cam false
      match s.cams[cam].port.link with
      | .training => t.flushCam cam (t.cams[cam].loseCarrier s.clock)
      | .locked => t.flushCam cam (t.cams[cam].loseCarrier s.clock)
      | .failed => t.flushCam cam (t.cams[cam].loseCarrier s.clock)
      | _ => t
  else .next (s.setCarrier cam false)

/-- R10, R11, R12: a word arrives; outside TRAINING it is ignored. -/
def execTrainingWord (cam : Fin 4) (word : BitVec 10) (s : State) : Host.Outcome State Fault Refusal :=
  event s (s.cams[cam].port.link == .training) fun s =>
    s.onCam cam fun c => { c with port := c.port.takeWord word s.clock }

/-- R12: the word timer expires in TRAINING. -/
def execWordTimerExpiry (cam : Fin 4) (s : State) : Host.Outcome State Fault Refusal :=
  event s (s.cams[cam].port.link == .training && s.cams[cam].port.wordTimer.isSome) fun s =>
    let t := s.atInstant s.cams[cam].port.wordTimer
    t.onCam cam fun c => { c with port := c.port.timeOut t.clock }

/-- R13, R26, R38: FRAME_START; outside LOCKED it is not acted on. -/
def execFrameStart (cam : Fin 4) (number : Byte) (s : State) : Host.Outcome State Fault Refusal :=
  if s.powered ∧ s.cams[cam].port.link = .locked then
    match s.cams[cam].startFrame number s.hundredths with
    | some c => .next (s.setCam cam c).settle
    | none => .fault .noFreeSlot
  else .next s

/-- R14, R15, R16: LINE; it acts in LOCKED with a frame open. -/
def execLine (cam : Fin 4) (index : BitVec 16) (pixels : List Pixel) (check : BitVec 16) (s : State) :
    Host.Outcome State Fault Refusal :=
  event s (s.cams[cam].port.link == .locked && s.cams[cam].port.frameOpen) fun s =>
    s.onCam cam fun c => c.takeLine index pixels check

/-- The judgement of a completed frame (R17, R27, R28): acceptance, or rejection with automatic retraining at the third
in a row. -/
def State.judgeFrame (s : State) (i : Fin 4) (c : Cam) : State :=
  match c.ring.fillingFrame with
  | some f =>
    if PortItems.accepts c.port.config.items f.record.repair then
      s.setCam i (c.acceptFrame s.sig s.clock s.timeBase)
    else
      let d := c.rejectFrame
      if 3 ≤ d.port.rejections then s.flushCam i (d.retrain s.clock) else s.setCam i d
  | none => s.setCam i { c with port := c.port.closeFrame }

/-- R17: FRAME_END; it acts in LOCKED with a frame open. The line count it carries is not used. -/
def execFrameEnd (cam : Fin 4) (_lineCount : Nat) (s : State) : Host.Outcome State Fault Refusal :=
  event s (s.cams[cam].port.link == .locked && s.cams[cam].port.frameOpen) fun s =>
    s.judgeFrame cam s.cams[cam].completeFrame

/-- R34: the stale deadline expires. -/
def execStaleDeadlineExpiry (cam : Fin 4) (s : State) : Host.Outcome State Fault Refusal :=
  event s s.cams[cam].ring.staleTimer.isSome fun s =>
    (s.atInstant s.cams[cam].ring.staleTimer).onCam cam fun c => { c with ring := c.ring.expireStale }

/-- R33: the lost deadline expires. -/
def execLostDeadlineExpiry (cam : Fin 4) (s : State) : Host.Outcome State Fault Refusal :=
  event s s.cams[cam].ring.lostTimer.isSome fun s =>
    (s.atInstant s.cams[cam].ring.lostTimer).onCam cam fun c => { c with ring := c.ring.expireLost }

/-! ### Requests -/

/-- The answer of a request that names a camera, 0..3; any other number is refused with BAD_VALUE. -/
def onCamera (cam : Nat) (s : State) (f : Fin 4 → Answer) : Answer :=
  match asIndex 4 cam with
  | some i => f i
  | none => refuse s .badValue

/-- The port is in TRAINING or LOCKED, where restricted items stay (R3, R4). -/
def LinkState.restricts : LinkState → Bool
  | .training => true
  | .locked => true
  | _ => false

/-- The owner's answer to SET_CAMERA_CONFIG (R4). -/
def answerSetCameraConfig (cam : Nat) (items : PortItems) (s : State) : Answer :=
  onCamera cam s fun i =>
    let p := s.cams[i].port
    if !items.valid then refuse s .badValue
    else if p.link.restricts && !items.sameRestricted p.config.items then refuse s .wrongState
    else accept (s.onCam i fun c => { c with port := { c.port with config := { c.port.config with items := items } } })
      .nothing

/-- The owner's answer to CAMERA_ENABLE (R5). -/
def answerCameraEnable (cam : Nat) (s : State) : Answer :=
  onCamera cam s fun i =>
    if s.cams[i].port.link = .disabled then accept (s.onCam i fun c => c.enable s.clock) .nothing
    else accept s .nothing

/-- The owner's answer to CAMERA_DISABLE (R6). -/
def answerCameraDisable (cam : Nat) (s : State) : Answer :=
  onCamera cam s fun i =>
    if s.cams[i].port.link = .disabled then accept s .nothing
    else accept (s.flushCam i (s.cams[i].disable s.clock)) .nothing

/-- The owner's answer to CAMERA_RETRAIN (R8). -/
def answerCameraRetrain (cam : Nat) (s : State) : Answer :=
  onCamera cam s fun i =>
    match s.cams[i].port.link with
    | .disabled => refuse s .wrongState
    | .down => refuse s .wrongState
    | _ => accept (s.flushCam i (s.cams[i].retrain s.clock)) .nothing

/-- The report of a camera as it stands (R19). -/
def Cam.report (c : Cam) : CameraReport where
  link := c.port.link
  carrier := c.port.carrier
  record := c.port.record
  frameOpen := c.port.frameOpen
  expectedLine := c.port.expectedLine
  rejections := c.port.rejections
  counters := c.port.counters
  picture := c.ring.picture
  periodEstimate := c.ring.estimate c.port.config.items.period
  newest := c.ring.newestFrame.map Frame.record
  gain := c.meter.gain
  clarity := c.meter.clarity

/-- The owner's answer to READ_CAMERA_REPORT (R19). -/
def answerCameraReport (cam : Nat) (s : State) : Answer :=
  onCamera cam s fun i => accept s (.camera s.cams[i].report)

/-- The owner's answer to SET_METERING (R57, R58). -/
def answerSetMetering (cam : Nat) (items : MeterItems) (s : State) : Answer :=
  onCamera cam s fun i =>
    let m := items.clampTarget
    let p := s.cams[i].port.config.items
    if m.valid p.width p.height then accept (s.onCam i fun c => { c with meter := c.meter.configure m }) .nothing
    else refuse s .badValue

/-- R4: SET_CAMERA_CONFIG, type 0x10. -/
def execSetCameraConfig (h : Header) (cam : Nat) (items : PortItems) (s : State) : Host.Outcome State Fault Refusal :=
  request 0x10#8 h (lengthIs h 21) (answerSetCameraConfig cam items) s

/-- R5: CAMERA_ENABLE, type 0x11. -/
def execCameraEnable (h : Header) (cam : Nat) (s : State) : Host.Outcome State Fault Refusal :=
  request 0x11#8 h (lengthIs h 1) (answerCameraEnable cam) s

/-- R6: CAMERA_DISABLE, type 0x12. -/
def execCameraDisable (h : Header) (cam : Nat) (s : State) : Host.Outcome State Fault Refusal :=
  request 0x12#8 h (lengthIs h 1) (answerCameraDisable cam) s

/-- R8: CAMERA_RETRAIN, type 0x13. -/
def execCameraRetrain (h : Header) (cam : Nat) (s : State) : Host.Outcome State Fault Refusal :=
  request 0x13#8 h (lengthIs h 1) (answerCameraRetrain cam) s

/-- R19: READ_CAMERA_REPORT, type 0x14. -/
def execReadCameraReport (h : Header) (cam : Nat) (s : State) : Host.Outcome State Fault Refusal :=
  request 0x14#8 h (lengthIs h 1) (answerCameraReport cam) s

/-- R57: SET_METERING, type 0x18. -/
def execSetMetering (h : Header) (cam : Nat) (items : MeterItems) (s : State) : Host.Outcome State Fault Refusal :=
  request 0x18#8 h (lengthIs h 20) (answerSetMetering cam items) s

end Sys2Proof.Machine
end

