-- ==== Sys2Proof/Machine/LinkCommands.lean ====
section
/-! DEFINITION. Machine/LinkCommands.lean: the meanings of the commands of the control link port itself (chapter 11). A
reception command whose bytes lead to no fault is the reception of those bytes; one whose bytes lead to another event than
its own changes nothing (assumption 8). -/
namespace Sys2Proof.Machine

/-- R169: a stop-bit fault, or a bad LEN, discards the frame being received. -/
def execLinkFraming (bytes : List Byte) (last : Byte) (stopFault : Bool) (s : State) :
    Host.Outcome State Fault Refusal :=
  if s.powered then
    match s.receiveLast bytes last stopFault with
    | some (t, .framingFault detail) => .next (t.discardFrame .linkFraming detail).settle
    | some (t, .quiet) => .next t.settle
    | _ => .next s
  else .next s

/-- R169: the gap timer expires before the next byte of the frame; the last stop bit on the line lies a gap time before. A
timer that is not running does not expire: then the bytes alone arrive. -/
def execLinkGap (bytes : List Byte) (s : State) : Host.Outcome State Fault Refusal :=
  if s.powered then
    match s.receiveQuiet bytes with
    | some t =>
      match t.link.rx.gapTimer with
      | some d =>
        let u := (t.atInstant (some d)).discardFrame .linkGap (min t.link.rx.bytes.length 255)
        .next (State.settle { u with link := { u.link with lastStop := d - millis gapMs } })
      | none => .next (if bytes.isEmpty then s else t.settle)
    | none => .next s
  else .next s

/-- R169: a complete frame whose CHECK differs is discarded; `bytes` ends with its second check byte. -/
def execLinkCheck (bytes : List Byte) (s : State) : Host.Outcome State Fault Refusal :=
  if s.powered then
    match bytes.getLast?.bind fun last => s.receiveLast bytes.dropLast last false with
    | some (t, .checkFault type) => .next (t.discardFrame .linkCheck type.toNat).settle
    | some (t, .quiet) => .next t.settle
    | _ => .next s
  else .next s

/-- R170 step 2: a valid frame whose TYPE is not a request type is refused with UNKNOWN_TYPE. -/
def execUnknownType (type : Byte) (h : Header) (s : State) : Host.Outcome State Fault Refusal :=
  if s.powered ∧ type ∉ requestTypes then
    let t := s.frameArrives
    .next (Answer.finish (refuse t .unknownType) type h)
  else .next s

/-- The reply's earliest start after the request's last check byte: 0.1 ms (R171). -/
def replyDelay : Nat := 30

/-- The reply's latest start after the request's last check byte: 2 ms (R171). -/
def replyLatest : Nat := 600

/-- R171: the part begins to send the owed reply. -/
def execReplyStart (s : State) : Host.Outcome State Fault Refusal :=
  event s (s.link.owed.isSome && s.link.tx == .idle) fun s =>
    let t := s.atInstant (s.link.owed.map fun r => r.owedAt + replyDelay)
    { t with link := { t.link with tx := .reply } }

/-- R171, R178: the last byte of the reply is sent; a soft reset that waits for it takes effect. -/
def execReplyEnd (s : State) : Host.Outcome State Fault Refusal :=
  event s (s.link.owed.isSome && s.link.tx == .reply) fun s =>
    match s.link.owed with
    | some r =>
      State.afterReply { s with link := { s.link with
        owed := none, tx := .idle, lastStop := s.clock
        counters := { s.link.counters with repliesSent := bump s.link.counters.repliesSent } } } r
    | none => s

/-- The instant from which the line has been idle for 3 ms (R172). -/
def LinkPort.idleInstant (l : LinkPort) : Nat := l.lastStop + millis noticeIdleMs

/-- R172: the part begins a STATUS_NOTICE carrying the condition set and the event set as they stand. -/
def execNoticeStart (s : State) : Host.Outcome State Fault Refusal :=
  event s s.link.noticeReady fun s =>
    let t := s.atInstant (some s.link.idleInstant)
    { t with link := { t.link with
      noticePending := false, tx := .notice ⟨t.sts.conditions, t.sts.events, t.timeBase⟩ } }

/-- The transmitter is sending a notice. -/
def Transmitter.isNotice : Transmitter → Bool
  | .notice _ => true
  | _ => false

/-- R172: the last byte of the notice is sent. -/
def execNoticeEnd (s : State) : Host.Outcome State Fault Refusal :=
  event s s.link.tx.isNotice fun s =>
    { s with link := { s.link with
      tx := .idle, lastStop := s.clock
      counters := { s.link.counters with noticesSent := bump s.link.counters.noticesSent } } }

/-- R173: a collision with the owed reply or the notice in progress. The byte that caused it is then taken in HUNT. -/
def execCollision (byte : Byte) (stopFault : Bool) (s : State) : Host.Outcome State Fault Refusal :=
  event s s.link.engaged fun s => (s.receiveByte byte stopFault).1

/-- The result data of IDENTIFY (R176). -/
def State.identity (s : State) : IdentifyData where
  family := 0x46
  member := 4
  revision := Config.revisionLessOne.val + 1
  rate := s.link.rate
  ports := 4
  time := s.timeBase
  counters := s.link.counters

/-- R176: IDENTIFY, type 0x01. -/
def execIdentify (h : Header) (s : State) : Host.Outcome State Fault Refusal :=
  request 0x01#8 h (lengthIs h 0) (fun t => accept t (.identify t.identity)) s

/-- R178: RESET_PART, type 0x02: accepted with OK; the soft reset takes effect when its reply ends or is dropped. -/
def execResetPart (h : Header) (s : State) : Host.Outcome State Fault Refusal :=
  request 0x02#8 h (lengthIs h 0) (fun t => accept t .nothing) s

end Sys2Proof.Machine
end

