-- ==== Sys2Proof/Machine/OutputCommands.lean ====
section
/-! DEFINITION. Machine/OutputCommands.lean: the meanings of the commands of the display output and the composer
(chapters 6 and 7). -/
namespace Sys2Proof.Machine

/-- R116: an output frame start; in OFF none occurs. -/
def execOutputFrameStart (s : State) : Host.Outcome State Fault Refusal :=
  if s.powered ∧ s.disp.state ≠ .off then
    match (s.atInstant s.disp.nextStart).startFrame with
    | some t => .next t.settle
    | none => .fault .selectedViewUndefined
  else .next s

/-- R118: the settle timer expires in STARTING. -/
def execSettleTimerExpiry (s : State) : Host.Outcome State Fault Refusal :=
  event s (s.disp.state == .starting && s.disp.settleTimer.isSome) fun s =>
    let t := s.atInstant s.disp.settleTimer
    { t with disp := { t.disp with state := .running, settleTimer := none } }

/-- R122: the hold timer expires in HOLD. -/
def execHoldTimerExpiry (s : State) : Host.Outcome State Fault Refusal :=
  event s (s.disp.state == .hold && s.disp.holdTimer.isSome) fun s =>
    let t := s.atInstant s.disp.holdTimer
    { t with disp := t.disp.leaveHold t.clock }

/-- An accepted request of the display output leaves it as `d`; the reply carries its items (R124). -/
def acceptOutput (s : State) (d : Display) : Answer := accept { s with disp := d } (.output d.report)

/-- The owner's answer to OUTPUT_ENABLE (R117). -/
def answerOutputEnable (s : State) : Answer :=
  let d := { s.disp with enable := true }
  acceptOutput s (match s.disp.state with
    | .off => d.takeStaged.enterStarting s.clock
    | .stopping => { d with stopToStarting := true }
    | _ => d)

/-- The owner's answer to OUTPUT_DISABLE (R119). -/
def answerOutputDisable (s : State) : Answer :=
  let d := { s.disp with enable := false }
  acceptOutput s (match s.disp.state with
    | .running => d.stop false
    | .stopping => { d with stopToStarting := false }
    | .starting => d.enterOff s.screen
    | .hold => d.enterOff s.screen
    | .off => d)

/-- The owner's answer to OUTPUT_HOLD (R120). -/
def answerOutputHold (s : State) : Answer :=
  if s.disp.state ≠ .running then refuse s .wrongState
  else if s.sig.movingValue then refuse s .notWhileMoving
  else acceptOutput s { s.disp with holdPending := true }

/-- The owner's answer to OUTPUT_RESUME (R122). -/
def answerOutputResume (s : State) : Answer :=
  match s.disp.state, s.disp.holdPending with
  | .hold, _ => acceptOutput s (s.disp.leaveHold s.clock)
  | .running, true => acceptOutput s { s.disp with holdPending := false }
  | _, _ => refuse s .wrongState

/-- The owner's answer to SET_OUTPUT_TIMING (R123). -/
def answerSetOutputTiming (timing : Nat) (s : State) : Answer :=
  match timingOf timing with
  | none => refuse s .badValue
  | some t =>
    if s.disp.state = .off ∨ s.disp.state = .hold then acceptOutput s { s.disp with staged := some t }
    else refuse s .wrongState

/-- R117: OUTPUT_ENABLE, type 0x40. -/
def execOutputEnable (h : Header) (s : State) : Host.Outcome State Fault Refusal :=
  request 0x40#8 h (lengthIs h 0) answerOutputEnable s

/-- R119: OUTPUT_DISABLE, type 0x41. -/
def execOutputDisable (h : Header) (s : State) : Host.Outcome State Fault Refusal :=
  request 0x41#8 h (lengthIs h 0) answerOutputDisable s

/-- R120: OUTPUT_HOLD, type 0x42. -/
def execOutputHold (h : Header) (s : State) : Host.Outcome State Fault Refusal :=
  request 0x42#8 h (lengthIs h 0) answerOutputHold s

/-- R122: OUTPUT_RESUME, type 0x43. -/
def execOutputResume (h : Header) (s : State) : Host.Outcome State Fault Refusal :=
  request 0x43#8 h (lengthIs h 0) answerOutputResume s

/-- R123: SET_OUTPUT_TIMING, type 0x44. -/
def execSetOutputTiming (h : Header) (timing : Nat) (s : State) : Host.Outcome State Fault Refusal :=
  request 0x44#8 h (lengthIs h 1) (answerSetOutputTiming timing) s

end Sys2Proof.Machine
end

