-- ==== Sys2Proof/Machine/SignalCommands.lean ====
section
/-! DEFINITION. Machine/SignalCommands.lean: the meanings of the commands of the signal unit (chapter 8). -/
namespace Sys2Proof.Machine

/-- The signal unit with a debouncer changed and the WIRE signals following it (R129, R130). -/
def SignalUnit.onWire (u : SignalUnit) (n : Fin 6) (f : Debouncer → Debouncer) : SignalUnit :=
  SignalUnit.followWires { u with wires := u.wires.set n (f u.wires[n]) }

/-- R129: a raw change. A level that the pin already has is no change; without power only the pin's level changes. -/
def execRawChange (wire : Fin 6) (level : Bool) (s : State) : Host.Outcome State Fault Refusal :=
  if s.powered then
    event s (s.sig.wires[wire].raw != level) fun s =>
      s.signalEvent (s.sig.onWire wire fun d => d.change s.sig.config.wires[wire] level s.clock)
  else .next { s with sig := { s.sig with wires := s.sig.wires.set wire { s.sig.wires[wire] with raw := level } } }

/-- R129: the debounce timer of a wired input expires. -/
def execDebounceTimerExpiry (wire : Fin 6) (s : State) : Host.Outcome State Fault Refusal :=
  event s s.sig.wires[wire].timer.isSome fun s =>
    let t := s.atInstant s.sig.wires[wire].timer
    t.signalEvent (t.sig.onWire wire Debouncer.expire)

/-- R134: the refresh timer of a MESSAGE signal expires. -/
def execRefreshTimerExpiry (signal : Fin 16) (s : State) : Host.Outcome State Fault Refusal :=
  event s s.sig.signals[signal].timer.isSome fun s =>
    let t := s.atInstant s.sig.signals[signal].timer
    t.signalEvent (t.sig.expireSignal signal)

/-- R132, R133: the speed refresh timer expires. -/
def execSpeedTimerExpiry (s : State) : Host.Outcome State Fault Refusal :=
  event s s.sig.speedTimer.isSome fun s =>
    let t := s.atInstant s.sig.speedTimer
    t.signalEvent t.sig.loseSpeed

/-- The signal unit after a SIGNAL_UPDATE (R131, R132): the entries, then the speed byte when it is present and known. -/
def SignalUnit.update (u : SignalUnit) (mask values : BitVec 16) (speed : Option Byte) (now : Nat) : SignalUnit :=
  let v := u.takeEntries mask values now
  match speed.bind speedOf with
  | some kmh => v.takeSpeed kmh now
  | none => v

/-- R131, R132, R170: SIGNAL_UPDATE, type 0x38, 4 or 5 payload bytes laid out by R174. It makes no reply owed; a wrong
length is discarded without reply or effect. -/
def execSignalUpdate (h : Header) (mask values : Byte × Byte) (speed : Byte) (s : State) :
    Host.Outcome State Fault Refusal :=
  if s.powered then
    let t := s.frameArrives
    let carried := [mask.1, mask.2, values.1, values.2] ++ (if h.len = 5 then [speed] else [])
    match payloadOf h.len carried signalUpdateOf with
    | some f => .next (t.signalEvent (t.sig.update f.mask f.values f.speed t.clock)).settle
    | none => .next t.settle
  else .next s

/-- The owner's answer to SET_SIGNAL_CONFIG (R136). -/
def answerSetSignalConfig (fields : SignalConfigFields) (s : State) : Answer :=
  match fields.asConfig with
  | some c => accept (s.signalEvent (s.sig.configure c s.clock)) .nothing
  | none => refuse s .badValue

/-- R136: SET_SIGNAL_CONFIG, type 0x39. -/
def execSetSignalConfig (h : Header) (config : SignalConfigFields) (s : State) : Host.Outcome State Fault Refusal :=
  request 0x39#8 h (lengthIs h 112) (answerSetSignalConfig config) s

/-- The report of the signal unit (R137). -/
def SignalUnit.report (u : SignalUnit) : SignalsReport where
  signals := tabulate fun i => ⟨u.config.signals[i], u.signals[i].value, u.signals[i].freshness⟩
  wires := tabulate fun i => ⟨u.config.wires[i], u.wires[i].raw, u.wires[i].accepted, u.active i⟩
  speed := u.speed
  speedFresh := u.speedFresh
  speedTimeout := u.config.speedTimeout
  moving := u.config.moving
  movingValue := u.movingValue
  wakeSet := u.config.wakeSet
  anyStale := u.anyStale

/-- R137: READ_SIGNALS, type 0x3A. -/
def execReadSignals (h : Header) (s : State) : Host.Outcome State Fault Refusal :=
  request 0x3A#8 h (lengthIs h 0) (fun t => accept t (.signals t.sig.report)) s

/-- R138: ENTER_STANDBY, type 0x3B. -/
def execEnterStandby (h : Header) (s : State) : Host.Outcome State Fault Refusal :=
  request 0x3B#8 h (lengthIs h 0) answerEnterStandby s

end Sys2Proof.Machine
end

