-- ==== Sys2Proof/Machine/StatusCommands.lean ====
section
/-! DEFINITION. Machine/StatusCommands.lean: the meanings of the commands of the status unit and the profile store
(chapter 10), and of power. -/
namespace Sys2Proof.Machine

/-- R165: power is applied, with the strap pins at the given levels. A part that has power is taken to lose it first. -/
def execPowerOnReset (strapA strapB : Bool) (s : State) : Host.Outcome State Fault Refusal :=
  .next (s.powerOn (rateOfStraps strapA strapB))

/-- R162: power is removed: a write in progress is cut off, and the part answers to nothing until power is applied. -/
def execPowerLoss (s : State) : Host.Outcome State Fault Refusal :=
  if s.powered then .next { s.cutSave with powered := false } else .next s

/-- R163: the profile write completes; `verified` says whether the verify passes. -/
def execProfileSaveCompletion (verified : Bool) (s : State) : Host.Outcome State Fault Refusal :=
  event s s.prf.save.isSome fun s =>
    match s.prf.save with
    | some v => s.completeSave v verified
    | none => s

/-- The report of READ_CONDITIONS (R158). -/
def State.conditionsReport (s : State) : ConditionsReport where
  conditions := s.sts.conditions
  events := s.sts.events
  enable := s.sts.enable
  slots := mapTable ProfileSlot.kind s.prf.slots
  saving := s.prf.save.map Save.slot

/-- The owner's answer to READ_EVENTS (R158): the event set is carried and cleared. -/
def answerReadEvents (s : State) : Answer :=
  accept { s with sts := { s.sts with events := 0 } } (.events s.sts.events)

/-- The owner's answer to SET_EVENT_ENABLE (R159). -/
def answerSetEventEnable (mask : BitVec 32) (s : State) : Answer :=
  accept { s with sts := { s.sts with enable := mask } } .nothing

/-- The owner's answer to READ_ERROR (R161). -/
def answerReadError (s : State) : Answer :=
  match s.sts.errors with
  | [] => accept s (.error .noError 0 0 0)
  | e :: rest => accept { s with sts := { s.sts with errors := rest } } (.error e.code e.detail e.time rest.length)

/-- R158: READ_CONDITIONS, type 0x48. -/
def execReadConditions (h : Header) (s : State) : Host.Outcome State Fault Refusal :=
  request 0x48#8 h (lengthIs h 0) (fun t => accept t (.conditions t.conditionsReport)) s

/-- R158: READ_EVENTS, type 0x49. -/
def execReadEvents (h : Header) (s : State) : Host.Outcome State Fault Refusal :=
  request 0x49#8 h (lengthIs h 0) answerReadEvents s

/-- R159: SET_EVENT_ENABLE, type 0x4A. -/
def execSetEventEnable (h : Header) (mask : BitVec 32) (s : State) : Host.Outcome State Fault Refusal :=
  request 0x4A#8 h (lengthIs h 4) (answerSetEventEnable mask) s

/-- R161: READ_ERROR, type 0x4B. -/
def execReadError (h : Header) (s : State) : Host.Outcome State Fault Refusal :=
  request 0x4B#8 h (lengthIs h 0) answerReadError s

/-- R163: SAVE_PROFILE, type 0x50. -/
def execSaveProfile (h : Header) (slot : Nat) (s : State) : Host.Outcome State Fault Refusal :=
  request 0x50#8 h (lengthIs h 1) (answerSaveProfile slot) s

/-- R164: LOAD_PROFILE, type 0x51. -/
def execLoadProfile (h : Header) (slot : Nat) (s : State) : Host.Outcome State Fault Refusal :=
  request 0x51#8 h (lengthIs h 1) (answerLoadProfile slot) s

end Sys2Proof.Machine
end

