-- ==== Sys2Proof/Machine/ViewCommands.lean ====
section
/-! DEFINITION. Machine/ViewCommands.lean: the meanings of the commands of the mesh store, the view table and the view
selector (chapters 4, 5 and 9). -/
namespace Sys2Proof.Machine

/-! ### Mesh store -/

/-- R68: the inactivity deadline of the upload expires. -/
def execMeshInactivityExpiry (s : State) : Host.Outcome State Fault Refusal :=
  event s s.mesh.upload.isSome fun s =>
    match s.mesh.upload with
    | some u => (s.atInstant (some u.deadline)).abandonUpload u
    | none => s

/-- R64: MESH_BEGIN, type 0x20. -/
def execMeshBegin (h : Header) (slot cols rows : Nat) (s : State) : Host.Outcome State Fault Refusal :=
  request 0x20#8 h (lengthIs h 3) (answerMeshBegin slot cols rows) s

/-- R65: MESH_ROWS, type 0x21: 2 + 4k payload bytes for k nodes, laid out by R174. -/
def execMeshRows (h : Header) (slot row : Byte) (nodes : List Byte) (s : State) : Host.Outcome State Fault Refusal :=
  match payloadOf h.len (slot :: row :: nodes) meshRowsOf with
  | some f => request 0x21#8 h true (answerMeshRows f.slot f.row f.nodes) s
  | none => request 0x21#8 h false (fun t => refuse t .badLength) s

/-- R66: MESH_END, type 0x22. -/
def execMeshEnd (h : Header) (slot : Nat) (s : State) : Host.Outcome State Fault Refusal :=
  request 0x22#8 h (lengthIs h 1) (answerMeshEnd slot) s

/-- R69: MESH_FREE, type 0x23. -/
def execMeshFree (h : Header) (slot : Nat) (s : State) : Host.Outcome State Fault Refusal :=
  request 0x23#8 h (lengthIs h 1) (answerMeshFree slot) s

/-! ### View table -/

/-- R76, R77: DEFINE_VIEW, type 0x28: 2 + 22n payload bytes. -/
def execDefineView (h : Header) (view count : Nat) (tiles : List TileFields) (s : State) :
    Host.Outcome State Fault Refusal :=
  request 0x28#8 h (lengthCounts h 2 22 count tiles.length) (answerDefineView view tiles) s

/-- R87: OVERLAY_CLEAR, type 0x29. -/
def execOverlayClear (h : Header) (view : Nat) (s : State) : Host.Outcome State Fault Refusal :=
  request 0x29#8 h (lengthIs h 1) (answerOverlayClear view) s

/-- R86: OVERLAY_APPEND, type 0x2A: 2 + 18n payload bytes. -/
def execOverlayAppend (h : Header) (view count : Nat) (prims : List PrimFields) (s : State) :
    Host.Outcome State Fault Refusal :=
  request 0x2A#8 h (lengthCounts h 2 18 count prims.length) (answerOverlayAppend view prims) s

/-- R80: DELETE_VIEW, type 0x2B. -/
def execDeleteView (h : Header) (view : Nat) (s : State) : Host.Outcome State Fault Refusal :=
  request 0x2B#8 h (lengthIs h 1) (answerDeleteView view) s

/-- R81: READ_VIEW, type 0x2C. -/
def execReadView (h : Header) (view : Nat) (part : ViewPart) (s : State) : Host.Outcome State Fault Refusal :=
  request 0x2C#8 h (lengthIs h 3) (answerReadView view part) s

/-! ### View selector -/

/-- The running release timer of an entry (R144). -/
def State.releaseTimer (s : State) (i : Fin 16) : Timer :=
  match s.sel.entries[i] with
  | some e => match e.state with | .releasing _ t => t | _ => none
  | none => none

/-- R145: the release timer of an entry expires: the entry enters IDLE and the selector re-evaluates. -/
def execReleaseTimerExpiry (entry : Fin 16) (s : State) : Host.Outcome State Fault Refusal :=
  event s (s.releaseTimer entry).isSome fun s =>
    let t := s.atInstant (s.releaseTimer entry)
    State.reevaluate { t with sel := { t.sel with
      entries := t.sel.entries.set entry ((t.sel.entries[entry]).map fun e => { e with state := .idle }) } }

/-- The running timer of the override (R152). -/
def State.overrideTimer (s : State) : Timer := s.sel.override.bind Override.timer

/-- R153: the override timer expires: the override is removed, OVERRIDE_ENDED is given and the selector re-evaluates. -/
def execOverrideExpiry (s : State) : Host.Outcome State Fault Refusal :=
  event s s.overrideTimer.isSome fun s => ((s.atInstant s.overrideTimer).pulse itemOverrideEnded).endOverride

/-- R149: SET_SELECTION_ENTRY, type 0x30: 9 + 2n payload bytes. -/
def execSetSelectionEntry (h : Header) (entry : Nat) (fields : EntryFields) (s : State) :
    Host.Outcome State Fault Refusal :=
  request 0x30#8 h (lengthCounts h 9 2 fields.termCount fields.terms.length) (answerSetEntry entry fields) s

/-- R150: CLEAR_SELECTION_ENTRY, type 0x31. -/
def execClearSelectionEntry (h : Header) (entry : Nat) (s : State) : Host.Outcome State Fault Refusal :=
  request 0x31#8 h (lengthIs h 1) (answerClearEntry entry) s

/-- R151: SET_DEFAULT_VIEW, type 0x32. -/
def execSetDefaultView (h : Header) (view : Nat) (s : State) : Host.Outcome State Fault Refusal :=
  request 0x32#8 h (lengthIs h 1) (answerSetDefault view) s

/-- R152: OVERRIDE_VIEW, type 0x33. -/
def execOverrideView (h : Header) (view rank duration : Nat) (s : State) : Host.Outcome State Fault Refusal :=
  request 0x33#8 h (lengthIs h 6) (answerOverride view rank duration) s

/-- R153: CANCEL_OVERRIDE, type 0x34. -/
def execCancelOverride (h : Header) (s : State) : Host.Outcome State Fault Refusal :=
  request 0x34#8 h (lengthIs h 0) answerCancelOverride s

/-- R154: READ_SELECTION, type 0x35. -/
def execReadSelection (h : Header) (part : SelectionPart) (s : State) : Host.Outcome State Fault Refusal :=
  request 0x35#8 h (lengthIs h 2) (answerReadSelection part) s

end Sys2Proof.Machine
end

