-- ==== Sys2Proof/Machine/Dispatch.lean ====
section
/-! DEFINITION. Machine/Dispatch.lean: the effect of a command on everything but the queue, one arm per row of the
opcode table, in the table's order. -/
namespace Sys2Proof.Machine

def exec (i : Instr) (s : State) : Host.Outcome State Fault Refusal :=
  match i with
  | .powerOnReset strapA strapB => Sys2Proof.Machine.execPowerOnReset strapA strapB s
  | .carrierPresent cam => Sys2Proof.Machine.execCarrierPresent cam s
  | .carrierLost cam => Sys2Proof.Machine.execCarrierLost cam s
  | .trainingWord cam word => Sys2Proof.Machine.execTrainingWord cam word s
  | .wordTimerExpiry cam => Sys2Proof.Machine.execWordTimerExpiry cam s
  | .frameStart cam number => Sys2Proof.Machine.execFrameStart cam number s
  | .line cam index pixels check => Sys2Proof.Machine.execLine cam index pixels check s
  | .frameEnd cam lineCount => Sys2Proof.Machine.execFrameEnd cam lineCount s
  | .staleDeadlineExpiry cam => Sys2Proof.Machine.execStaleDeadlineExpiry cam s
  | .lostDeadlineExpiry cam => Sys2Proof.Machine.execLostDeadlineExpiry cam s
  | .meshInactivityExpiry => Sys2Proof.Machine.execMeshInactivityExpiry s
  | .outputFrameStart => Sys2Proof.Machine.execOutputFrameStart s
  | .settleTimerExpiry => Sys2Proof.Machine.execSettleTimerExpiry s
  | .holdTimerExpiry => Sys2Proof.Machine.execHoldTimerExpiry s
  | .rawChange wire level => Sys2Proof.Machine.execRawChange wire level s
  | .debounceTimerExpiry wire => Sys2Proof.Machine.execDebounceTimerExpiry wire s
  | .refreshTimerExpiry signal => Sys2Proof.Machine.execRefreshTimerExpiry signal s
  | .speedTimerExpiry => Sys2Proof.Machine.execSpeedTimerExpiry s
  | .releaseTimerExpiry entry => Sys2Proof.Machine.execReleaseTimerExpiry entry s
  | .overrideExpiry => Sys2Proof.Machine.execOverrideExpiry s
  | .profileSaveCompletion verified => Sys2Proof.Machine.execProfileSaveCompletion verified s
  | .linkFraming bytes last stopFault => Sys2Proof.Machine.execLinkFraming bytes last stopFault s
  | .linkGap bytes => Sys2Proof.Machine.execLinkGap bytes s
  | .linkCheck bytes => Sys2Proof.Machine.execLinkCheck bytes s
  | .unknownType type h => Sys2Proof.Machine.execUnknownType type h s
  | .replyStart => Sys2Proof.Machine.execReplyStart s
  | .replyEnd => Sys2Proof.Machine.execReplyEnd s
  | .noticeStart => Sys2Proof.Machine.execNoticeStart s
  | .noticeEnd => Sys2Proof.Machine.execNoticeEnd s
  | .collision byte stopFault => Sys2Proof.Machine.execCollision byte stopFault s
  | .identify h => Sys2Proof.Machine.execIdentify h s
  | .resetPart h => Sys2Proof.Machine.execResetPart h s
  | .setCameraConfig h cam items => Sys2Proof.Machine.execSetCameraConfig h cam items s
  | .cameraEnable h cam => Sys2Proof.Machine.execCameraEnable h cam s
  | .cameraDisable h cam => Sys2Proof.Machine.execCameraDisable h cam s
  | .cameraRetrain h cam => Sys2Proof.Machine.execCameraRetrain h cam s
  | .readCameraReport h cam => Sys2Proof.Machine.execReadCameraReport h cam s
  | .setMetering h cam items => Sys2Proof.Machine.execSetMetering h cam items s
  | .meshBegin h slot cols rows => Sys2Proof.Machine.execMeshBegin h slot cols rows s
  | .meshRows h slot row nodes => Sys2Proof.Machine.execMeshRows h slot row nodes s
  | .meshEnd h slot => Sys2Proof.Machine.execMeshEnd h slot s
  | .meshFree h slot => Sys2Proof.Machine.execMeshFree h slot s
  | .defineView h view count tiles => Sys2Proof.Machine.execDefineView h view count tiles s
  | .overlayClear h view => Sys2Proof.Machine.execOverlayClear h view s
  | .overlayAppend h view count prims => Sys2Proof.Machine.execOverlayAppend h view count prims s
  | .deleteView h view => Sys2Proof.Machine.execDeleteView h view s
  | .readView h view part => Sys2Proof.Machine.execReadView h view part s
  | .setSelectionEntry h entry fields => Sys2Proof.Machine.execSetSelectionEntry h entry fields s
  | .clearSelectionEntry h entry => Sys2Proof.Machine.execClearSelectionEntry h entry s
  | .setDefaultView h view => Sys2Proof.Machine.execSetDefaultView h view s
  | .overrideView h view rank duration => Sys2Proof.Machine.execOverrideView h view rank duration s
  | .cancelOverride h => Sys2Proof.Machine.execCancelOverride h s
  | .readSelection h part => Sys2Proof.Machine.execReadSelection h part s
  | .signalUpdate h mask values speed => Sys2Proof.Machine.execSignalUpdate h mask values speed s
  | .setSignalConfig h config => Sys2Proof.Machine.execSetSignalConfig h config s
  | .readSignals h => Sys2Proof.Machine.execReadSignals h s
  | .enterStandby h => Sys2Proof.Machine.execEnterStandby h s
  | .outputEnable h => Sys2Proof.Machine.execOutputEnable h s
  | .outputDisable h => Sys2Proof.Machine.execOutputDisable h s
  | .outputHold h => Sys2Proof.Machine.execOutputHold h s
  | .outputResume h => Sys2Proof.Machine.execOutputResume h s
  | .setOutputTiming h timing => Sys2Proof.Machine.execSetOutputTiming h timing s
  | .readConditions h => Sys2Proof.Machine.execReadConditions h s
  | .readEvents h => Sys2Proof.Machine.execReadEvents h s
  | .setEventEnable h mask => Sys2Proof.Machine.execSetEventEnable h mask s
  | .readError h => Sys2Proof.Machine.execReadError h s
  | .saveProfile h slot => Sys2Proof.Machine.execSaveProfile h slot s
  | .loadProfile h slot => Sys2Proof.Machine.execLoadProfile h slot s
  | .powerLoss => Sys2Proof.Machine.execPowerLoss s

end Sys2Proof.Machine
end

