-- ==== Sys2Proof/Machine/Idle.lean ====
section
/-! DEFINITION. Machine/Idle.lean: what the part does on its own, on an empty queue (assumption 10): time passes, and a
timer that has reached its instant gives its command. -/
namespace Sys2Proof.Machine

/-- A command, when it is due. -/
def dueIf (due : Bool) (c : Instr) : List Instr := if due then [c] else []

/-- The commands of a camera's timers that are due (R12, R33, R34). -/
def State.dueOfCam (s : State) (i : Fin 4) : List Instr :=
  let c := s.cams[i]
  dueIf (c.port.link == .training && isDue c.port.wordTimer s.clock) (.wordTimerExpiry i) ++
  dueIf (isDue c.ring.staleTimer s.clock) (.staleDeadlineExpiry i) ++
  dueIf (isDue c.ring.lostTimer s.clock) (.lostDeadlineExpiry i)

/-- The commands of the display output that are due (R116, R118, R122). -/
def State.dueOfDisplay (s : State) : List Instr :=
  dueIf (s.disp.state != .off && isDue s.disp.nextStart s.clock) .outputFrameStart ++
  dueIf (s.disp.state == .starting && isDue s.disp.settleTimer s.clock) .settleTimerExpiry ++
  dueIf (s.disp.state == .hold && isDue s.disp.holdTimer s.clock) .holdTimerExpiry

/-- The commands of the control link port that are due (R169, R171, R172): a reply starts at the latest 2 ms after it
became owed, a notice once the line has been idle for 3 ms. -/
def State.dueOfLink (s : State) : List Instr :=
  let l := s.link
  dueIf (isDue l.rx.gapTimer s.clock) (.linkGap []) ++
  dueIf (l.tx == .idle && isDue (l.owed.map fun r => r.owedAt + replyLatest) s.clock) .replyStart ++
  dueIf (l.noticeReady && decide (l.idleInstant ≤ s.clock)) .noticeStart

/-- Every command of the part's own that is due at the present instant. -/
def State.dueCommands (s : State) : List Instr :=
  (List.finRange 4).flatMap s.dueOfCam ++
  dueIf (isDue (s.mesh.upload.map Upload.deadline) s.clock) .meshInactivityExpiry ++
  s.dueOfDisplay ++
  ((List.finRange 6).flatMap fun n => dueIf (isDue s.sig.wires[n].timer s.clock) (.debounceTimerExpiry n)) ++
  ((List.finRange 16).flatMap fun n => dueIf (isDue s.sig.signals[n].timer s.clock) (.refreshTimerExpiry n)) ++
  dueIf (isDue s.sig.speedTimer s.clock) .speedTimerExpiry ++
  ((List.finRange 16).flatMap fun n => dueIf (isDue (s.releaseTimer n) s.clock) (.releaseTimerExpiry n)) ++
  dueIf (isDue s.overrideTimer s.clock) .overrideExpiry ++
  s.dueOfLink

/-- One of the commands due, `cs` after `c`: the manual leaves the order of timers due at one instant open (assumption
3), so the choice is a free value. -/
def pickDue (c : Instr) (cs : List Instr) (choice : Nat) : Instr := ((c :: cs)[choice % (cs.length + 1)]?).getD c

/-- A step on an empty queue: without power nothing happens; with no timer due the clock advances; a timer that is due
gives its command, and of several the free choice decides. -/
def idleStep (s : State) : Host.Outcome State Fault Refusal :=
  if s.powered then
    match s.dueCommands with
    | [] => .next { s with clock := s.clock + 1 }
    | [c] => exec c s
    | c :: cs => exec (pickDue c cs (Config.firstDue s.freeCount)) { s with freeCount := s.freeCount + 1 }
  else .next s

/-- A command put at the front of the queue. -/
def State.pushFront (s : State) (c : Instr) : State := { s with pending := c :: s.pending }

end Sys2Proof.Machine
end

