-- ==== Sys2Proof/Safety.lean ====
section
/-! DEFINITION. Safety.lean: what a safe state of the part is: the statements the manual makes about the part at every
moment, as predicates of a state, and the state after the reply of a request becomes owed. The obligations state that
every step keeps each predicate. -/
namespace Sys2Proof.Machine

/-! ### What a request leaves -/

/-- The part after a request of type `request` has been handled with result `code` and `data`, leaving the blocks as `a`:
the reply is owed with the request's type, its most significant bit set, and the request's tag (R170, R171), and the
status unit ends the event. -/
def State.answered (a : State) (request : Byte) (h : Header) (code : ResultCode) (data : ReplyData) : State :=
  State.settle { a with link := { a.link with
    owed := some { type := request ||| 0x80#8, tag := h.tag, code := code, data := data, owedAt := a.clock } } }

/-! ### What the rules of the cameras leave, written out -/

/-- A port with no attempt and no frame in progress (R6, R7, R8, R22): no words taken, the word timer stopped, no frame
open, expected line 0 and the consecutive-rejection count 0. -/
def Port.atRest (p : Port) : Port :=
  { p with words := [], wordTimer := none, frameOpen := false, expectedLine := 0, rejections := 0 }

/-- A port that begins the attempt numbered `attempt` at `now` with chosen phase `chosen` (R9). -/
def Port.attempting (p : Port) (attempt : Nat) (chosen : Option Nat) (now : Nat) : Port :=
  { p with
    link := .training
    record := {
      passMap := Vector.replicate 32 .notTried, windowStart := none, windowWidth := 0, chosenPhase := chosen
      attempts := attempt }
    phase := 0
    words := []
    wordTimer := some (now + 300 * 200) }

/-- A port that begins a sweep (R9): *trainings* advances, the chosen phase is absent and the first attempt begins. -/
def Port.sweeping (p : Port) (now : Nat) : Port :=
  Port.attempting { p with counters := { p.counters with trainings := min (p.counters.trainings + 1) 4294967295 } }
    1 none now

/-- A port whose attempt has failed with the record `r` (R12): *training failures* advances, and the next attempt begins,
or the third one leaves the port FAILED. -/
def Port.attemptFailed (p : Port) (r : TrainingRecord) (now : Nat) : Port :=
  let q := { p with counters := { p.counters with trainingFailures := min (p.counters.trainingFailures + 1) 4294967295 } }
  if r.attempts < 3 then q.attempting (r.attempts + 1) r.chosenPhase now
  else { q with link := .failed, record := r, words := [], wordTimer := none }

/-- A camera whose ring and metering unit a flush has emptied (R42, R50); `live` says that the port ends the event enabled
and powered. -/
def Cam.emptied (c : Cam) (now : Nat) (live : Bool) : Cam :=
  { c with
    ring := {
      slots := Vector.replicate 3 .free, acceptCount := 0, picture := .absent, staleTimer := none
      lostTimer := if live then some (now + 300 * c.port.config.items.lostLimit) else none
      prevStart := none, intervals := [] }
    meter := { c.meter with
      gain := max c.meter.config.gainMin (min 128 c.meter.config.gainMax), intervalCount := 0, history := [] } }

/-- A camera whose port has abandoned its work, been flushed and begun a new sweep (R8, R17). -/
def Cam.retrained (c : Cam) (now : Nat) : Cam :=
  Cam.emptied { c with port := c.port.atRest.sweeping now } now true

/-- The camera of index `i` is the only part of the cameras that differs. -/
def camsAgreeBut (i : Fin 4) (v w : Vector Cam 4) : Prop := ∀ j : Fin 4, j ≠ i → w[j] = v[j]

/-- Carried port items as R4 step 1 asks: every value in its range of R3 and the training words all different. -/
def PortItems.acceptable (p : Sys2Proof.PortItems) : Prop :=
  p.word0 ≤ 1023 ∧ p.word1 ≤ 1023 ∧ p.word2 ≤ 1023 ∧ p.word3 ≤ 1023 ∧
  [p.word0, p.word1, p.word2, p.word3].Nodup ∧
  320 ≤ p.width ∧ p.width ≤ 1280 ∧ 16 ∣ p.width ∧ 240 ≤ p.height ∧ p.height ≤ 960 ∧ 8 ∣ p.height ∧
  100 ≤ p.period ∧ p.period ≤ 2000 ∧ p.damageLimit ≤ 63 ∧ 1 ≤ p.runLimit ∧ p.runLimit ≤ 16 ∧
  2 ≤ p.minWindow ∧ p.minWindow ≤ 16 ∧ 1 ≤ p.rateWindow ∧ p.rateWindow ≤ 50 ∧
  600 ≤ p.lostLimit ∧ p.lostLimit ≤ 5000

/-- The restricted items of two configurations agree (R3, R4 step 2). -/
def PortItems.restrictedAgree (p q : Sys2Proof.PortItems) : Prop :=
  p.word0 = q.word0 ∧ p.word1 = q.word1 ∧ p.word2 = q.word2 ∧ p.word3 = q.word3 ∧ p.width = q.width ∧
  p.height = q.height ∧ p.period = q.period ∧ p.damageLimit = q.damageLimit ∧ p.runLimit = q.runLimit ∧
  p.minWindow = q.minWindow

/-- Carried metering items as R57 step 3 asks, against a frame of `w` by `h`; the target is clamped and has no test. -/
def MeterItems.acceptable (m : Sys2Proof.MeterItems) (w h : Nat) : Prop :=
  64 ≤ m.winW ∧ m.winW ≤ 1280 ∧ 32 ∣ m.winW ∧ 48 ≤ m.winH ∧ m.winH ≤ 960 ∧ 24 ∣ m.winH ∧
  m.winX + m.winW ≤ w ∧ m.winY + m.winH ≤ h ∧
  16 ≤ m.gainMin ∧ m.gainMin ≤ m.gainMax ∧ m.gainMax ≤ 255 ∧ 1 ≤ m.slew ∧ m.slew ≤ 64 ∧ m.deadBand ≤ 16 ∧
  1 ≤ m.clarityThreshold ∧ m.clarityThreshold ≤ 64 ∧ 1 ≤ m.interval ∧ m.interval ≤ 255 ∧ m.darkLimit ≤ 128 ∧
  (∀ n, m.gate = .signal n → n ≤ 15) ∧ m.clearMax ≤ 47 ∧ m.obscuredMin ≤ 48 ∧ m.clearMax < m.obscuredMin

/-- The window items agree. -/
def MeterItems.windowsAgree (m k : Sys2Proof.MeterItems) : Prop :=
  m.winX = k.winX ∧ m.winY = k.winY ∧ m.winW = k.winW ∧ m.winH = k.winH

/-- The clarity items agree (R58). -/
def MeterItems.clarityAgrees (m k : Sys2Proof.MeterItems) : Prop :=
  m.clarityThreshold = k.clarityThreshold ∧ m.clearMax = k.clearMax ∧ m.obscuredMin = k.obscuredMin

/-! ### What the rules of the views ask, written out -/

/-- A carried tile meets tests 3 to 5 of R76 against the configured frames. -/
def TileFields.acceptable (f : Sys2Proof.TileFields) (cams : Vector Cam 4) : Prop :=
  (∃ camera : Fin 4, f.camera = camera.val ∧
    (f.mapping = some .linear →
      2 ≤ f.sw ∧ 2 ≤ f.sh ∧ f.sx + f.sw ≤ cams[camera].port.config.items.width ∧
      f.sy + f.sh ≤ cams[camera].port.config.items.height)) ∧
  64 ≤ f.w ∧ f.w ≤ 1280 ∧ 48 ≤ f.h ∧ f.h ≤ 800 ∧ f.mapping.isSome = true ∧ f.mirror.isSome = true ∧
  (f.mapping = some .mesh → f.slot ≤ 7) ∧ f.x + f.w ≤ 1280 ∧ f.y + f.h ≤ 800

/-- A tile of the table holds what was carried, and only the fields of its own mapping (R74, R76). -/
def TileFields.becomes (f : Sys2Proof.TileFields) (t : Sys2Proof.Tile) : Prop :=
  t.camera.val = f.camera ∧ t.x = f.x ∧ t.y = f.y ∧ t.w = f.w ∧ t.h = f.h ∧ some t.mirror = f.mirror ∧ t.fill = f.fill ∧
  match t.mapping with
  | .linear sx sy sw sh => f.mapping = some .linear ∧ sx = f.sx ∧ sy = f.sy ∧ sw = f.sw ∧ sh = f.sh
  | .mesh slot => f.mapping = some .mesh ∧ slot.val = f.slot

/-- Two carried tiles share a canvas pixel (R76 test 6). -/
def TileFields.overlap (a b : Sys2Proof.TileFields) : Prop :=
  a.x < b.x + b.w ∧ b.x < a.x + a.w ∧ a.y < b.y + b.h ∧ b.y < a.y + a.h

/-- A carried primitive has its codes and ranges in order (R83, R84). -/
def PrimFields.acceptable (f : Sys2Proof.PrimFields) : Prop :=
  (match f.geometry with
    | some (.line x0 y0 x1 y1 b) =>
      -32768 ≤ x0 ∧ x0 ≤ 32767 ∧ -32768 ≤ y0 ∧ y0 ≤ 32767 ∧ -32768 ≤ x1 ∧ x1 ≤ 32767 ∧ -32768 ≤ y1 ∧ y1 ≤ 32767 ∧
      1 ≤ b ∧ b ≤ 8
    | some (.rect x y w h b) =>
      -32768 ≤ x ∧ x ≤ 32767 ∧ -32768 ≤ y ∧ y ≤ 32767 ∧ 1 ≤ w ∧ w ≤ 32767 ∧ 1 ≤ h ∧ h ≤ 32767 ∧ 1 ≤ b ∧ b ≤ 8
    | some (.box x y w h) =>
      -32768 ≤ x ∧ x ≤ 32767 ∧ -32768 ≤ y ∧ y ≤ 32767 ∧ 1 ≤ w ∧ w ≤ 32767 ∧ 1 ≤ h ∧ h ≤ 32767
    | some (.glyph x y g scale) =>
      -32768 ≤ x ∧ x ≤ 32767 ∧ -32768 ≤ y ∧ y ≤ 32767 ∧ g ≤ 7 ∧ 1 ≤ scale ∧ scale ≤ 4
    | none => False) ∧
  f.blink.isSome = true ∧
  match f.showWhen with
  | .always => True
  | .onSignal n wanted => n ≤ 15 ∧ wanted.isSome = true

/-- A primitive of the list holds what was carried, its alpha clamped to 16 (R83). -/
def PrimFields.becomes (f : Sys2Proof.PrimFields) (p : Sys2Proof.Prim) : Prop :=
  f.geometry = some p.geometry ∧ p.colour = f.colour ∧ p.alpha = min f.alpha 16 ∧ f.blink = some p.blink ∧
  match p.showWhen with
  | .always => f.showWhen = .always
  | .onSignal n wanted => f.showWhen = .onSignal n.val (some wanted)

/-- A mesh slot is named by a MESH tile of the latched view or of the selected view (R70). -/
def State.namesMesh (s : State) (slot : Fin 8) : Prop :=
  ∃ t : Sys2Proof.Tile, (t ∈ s.comp.latchedTiles ∨ t ∈ s.selectedTiles) ∧ t.mapping = .mesh slot

/-! ### Frame rings (R24) -/

/-- Three slots with at most one FILLING, at most one READY and at most one SHOWING (R24). -/
def slotsSafe (slots : List Slot) : Prop :=
  (slots.countP fun x => match x with | .filling _ => true | _ => false) ≤ 1 ∧
  (slots.countP fun x => match x with | .ready _ => true | _ => false) ≤ 1 ∧
  (slots.countP fun x => match x with | .showing _ => true | _ => false) ≤ 1

/-- Every camera's ring keeps R24. -/
def State.ringsSafe (s : State) : Prop := ∀ i : Fin 4, slotsSafe s.cams[i].ring.slots.toList

/-! ### Camera ports and picture states (R2, R9, R14, R22, R24, chapter 2.4.1) -/

/-- The deadlines that run in each picture state (chapter 2.4.1); `live` says that the port is enabled and powered. -/
def deadlinesSafe (r : Ring) (live : Bool) : Prop :=
  match r.picture with
  | .absent => r.staleTimer = none ∧ r.lostTimer.isSome = live
  | .fresh => r.staleTimer.isSome = true ∧ r.lostTimer.isSome = true ∧ live = true
  | .stale => r.staleTimer = none ∧ r.lostTimer.isSome = true ∧ live = true
  | .lost => r.staleTimer = none ∧ r.lostTimer = none ∧ live = true

/-- A camera in order: *enabled* and the link state agree; the word timer runs exactly in TRAINING (R9); a frame is open
only in LOCKED, and outside LOCKED the ring holds no frame (R29); a frame is open exactly while a slot is FILLING (chapter
1.4.1); the deadlines fit the picture state; a powered-down port
is in DOWN and has recorded that it was enabled, which happens in standby only (R22). -/
def Cam.safe (standby : Bool) (c : Cam) : Prop :=
  (c.port.config.enabled = false ↔ c.port.link = .disabled) ∧
  (c.port.wordTimer.isSome = true ↔ c.port.link = .training) ∧
  (c.port.link ≠ .locked → c.port.frameOpen = false ∧ c.ring.slots = Vector.replicate 3 .free) ∧
  (c.port.frameOpen = c.ring.slots.toList.any fun x => match x with | .filling _ => true | _ => false) ∧
  deadlinesSafe c.ring (c.port.config.enabled && c.port.linkPower) ∧
  (c.port.linkPower = !c.port.wasEnabled) ∧
  (c.port.wasEnabled = true → c.port.link = .down ∧ standby = true)

/-- Every camera is in order. -/
def State.camsSafe (s : State) : Prop := ∀ i : Fin 4, s.cams[i].safe s.sig.standby

/-! ### Gains (R49) -/

/-- Gain limits as R44 allows them. -/
def MeterItems.limitsSafe (m : Sys2Proof.MeterItems) : Prop := 16 ≤ m.gainMin ∧ m.gainMin ≤ m.gainMax ∧ m.gainMax ≤ 255

/-- Every camera's gain lies within its configured limits, which are as R44 allows them (R49). -/
def State.gainsSafe (s : State) : Prop :=
  ∀ i : Fin 4, MeterItems.limitsSafe s.cams[i].meter.config ∧
    s.cams[i].meter.config.gainMin ≤ s.cams[i].meter.gain ∧ s.cams[i].meter.gain ≤ s.cams[i].meter.config.gainMax

/-- A profile's gain limits are as R44 allows them. -/
def Profile.gainsSafe (p : Sys2Proof.Profile) : Prop := ∀ i : Fin 4, MeterItems.limitsSafe p.meters[i]

/-! ### Meshes (R60, R61, R63) -/

/-- A complete mesh: as many rows as its dimensions say, each of as many nodes (R62). -/
def Mesh.complete (m : Sys2Proof.Mesh) : Prop := m.nodes.length = m.rows ∧ ∀ row ∈ m.nodes, row.length = m.cols

/-- A slot's contents fit its state (R60). -/
def MeshSlot.safe : MeshSlot → Prop
  | .free => True
  | .loading cols rows held => held.length ≤ rows ∧ ∀ row ∈ held, row.length = cols
  | .ready m => Mesh.complete m

/-- The mesh store in order: charge within the pool (R61), and a slot is LOADING exactly while the upload context names
it, with as many rows held as next row says (R63). -/
def MeshStore.safe (m : MeshStore) : Prop :=
  m.charge ≤ 6144 ∧ (∀ i : Fin 8, MeshSlot.safe m.slots[i]) ∧
  ∀ i : Fin 8, match m.slots[i] with
    | .loading _ _ held => ∃ u, m.upload = some u ∧ u.slot = i ∧ held.length = u.nextRow
    | _ => ∀ u, m.upload = some u → u.slot ≠ i

/-- A profile's meshes are complete and fit the pool (R72). -/
def Profile.meshesSafe (p : Sys2Proof.Profile) : Prop := (loadedMeshes p.meshes).safe

/-! ### Views and their references (R73, R79) -/

/-- A defined view in order: 1 to 4 tiles inside the canvas, no two overlapping, and an overlay list within its limits
(R73). -/
def View.safe (v : Sys2Proof.View) : Prop :=
  1 ≤ v.tiles.length ∧ v.tiles.length ≤ 4 ∧
  (∀ t ∈ v.tiles, t.x + t.w ≤ 1280 ∧ t.y + t.h ≤ 800) ∧
  v.tiles.Pairwise (fun a b =>
    ¬(a.x < b.x + b.w ∧ b.x < a.x + a.w ∧ a.y < b.y + b.h ∧ b.y < a.y + a.h)) ∧
  v.overlays.length ≤ 24 ∧ totalCost v.overlays ≤ 48

/-- A view table in order (R73). -/
def viewsSafe (views : Vector (Option Sys2Proof.View) 16) : Prop :=
  ∀ i : Fin 16, ∀ v, views[i] = some v → View.safe v

/-- A profile's views are in order. -/
def Profile.viewsSafe (p : Sys2Proof.Profile) : Prop := Sys2Proof.Machine.viewsSafe p.views

/-- A profile's default view and selection entries name views defined in it (R79). -/
def Profile.refsSafe (p : Sys2Proof.Profile) : Prop :=
  p.views[p.defaultView].isSome = true ∧
  ∀ i : Fin 16, ∀ e, p.table[i] = some e → p.views[e.view].isSome = true

/-- The default view, the override view, the selected view, the latched view and the view of every non-empty selection
entry are defined views (R79). -/
def State.refsSafe (s : State) : Prop :=
  s.definedView s.sel.defaultView = true ∧
  (∀ o, s.sel.override = some o → s.definedView o.view = true) ∧
  s.definedView s.sel.selected = true ∧
  (∀ n, s.comp.latchedView = some n → s.definedView n = true) ∧
  ∀ i : Fin 16, ∀ e, s.sel.entries[i] = some e → s.definedView e.config.view = true

/-! ### Profiles held -/

/-- Every profile that the store holds, VALID in a slot or as the snapshot being written, satisfies `P`. -/
def ProfileStore.every (z : ProfileStore) (P : Sys2Proof.Profile → Prop) : Prop :=
  (∀ n : Fin 4, ∀ p check, z.slots[n] = .valid p check → P p) ∧ ∀ v, z.save = some v → P v.snapshot

/-! ### Selection (R142, R146) -/

/-- The selected view is the view of the active choice, the active choice is the highest-ranked claiming item (R146), and
an entry is HELD exactly while its terms hold (R142). -/
def State.selectionSafe (s : State) : Prop :=
  s.sel.active = s.sel.choice ∧ s.sel.selected = s.sel.viewOf s.sel.active ∧
  ∀ i : Fin 16, ∀ e, s.sel.entries[i] = some e →
    (e.state = .held ↔ EntryConfig.termsHold e.config s.sig.values = true)

/-! ### Signals (R127, R129, R130, R132) -/

/-- A signal record fits its source (R127, R130). -/
def SignalUnit.recordSafe (u : SignalUnit) (i : Fin 16) : Prop :=
  match u.config.signals[i].source with
  | .wire n => u.signals[i] = ⟨u.active n, .none, none⟩
  | .message => u.signals[i].freshness = if u.signals[i].timer.isSome then .fresh else .stale
  | .speed _ _ => u.signals[i].timer = none ∧ u.signals[i].freshness = if u.speedFresh then .fresh else .stale

/-- The signal unit in order: every record fits its source, and the speed is FRESH exactly while its timer runs, with a
speed taken (R132). -/
def SignalUnit.safe (u : SignalUnit) : Prop :=
  (∀ i : Fin 16, u.recordSafe i) ∧ u.speedTimer.isSome = u.speedFresh ∧ (u.speedFresh = true → u.speed.isSome = true)

/-- While the part has power, a debounce timer runs exactly while the raw level differs from the accepted level (R129). -/
def State.wiresSafe (s : State) : Prop :=
  s.powered = true → ∀ n : Fin 6, (s.sig.wires[n].timer.isSome = true ↔ s.sig.wires[n].raw ≠ s.sig.wires[n].accepted)

/-! ### Display output and composer (chapters 6 and 7) -/

/-- The display output in order: each timer runs in its own state only, frames start and are sent in every state but OFF (R116), a hold
is pending in RUNNING only, the composer holds a context only in RUNNING and STOPPING and whenever the frame being sent is
its own (R95, R102), and in standby the output is OFF (R125). -/
def State.outputSafe (s : State) : Prop :=
  (s.disp.settleTimer.isSome = true ↔ s.disp.state = .starting) ∧
  (s.disp.holdTimer.isSome = true ↔ s.disp.state = .hold) ∧
  (s.disp.nextStart.isSome = true ↔ s.disp.state ≠ .off) ∧
  (s.disp.sending = .nothing ↔ s.disp.state = .off) ∧
  (s.disp.holdPending = true → s.disp.state = .running) ∧
  (s.comp.context.isSome = true → s.disp.state = .running ∨ s.disp.state = .stopping) ∧
  (s.disp.sending = .composed → s.comp.context.isSome = true) ∧
  (s.comp.tileFault = true → s.comp.context.isSome = true) ∧
  (s.sig.standby = true → s.disp.state = .off)

/-! ### Status unit (R156, R157, R160) -/

/-- While the part has power, the condition set holds each condition's present value (R156) and ATTN is asserted exactly
while some event item is both latched and enabled (R157). -/
def State.statusSafe (s : State) : Prop :=
  s.powered = true →
    (∀ n : Fin 32, s.sts.conditions.getLsbD n = s.conditionItem n) ∧
    (s.sts.attn = true ↔ ∃ n : Fin 32, s.sts.events.getLsbD n = true ∧ s.sts.enable.getLsbD n = true)

/-! ### Control link port (R171 to R173) -/

/-- The transmitter sends a reply only while one is owed, and a notice only while none is (R171, R172). -/
def LinkPort.safe (l : LinkPort) : Prop :=
  match l.tx with
  | .idle => True
  | .reply => l.owed.isSome = true
  | .notice _ => l.owed = none

end Sys2Proof.Machine
end

