-- ==== Sys2Proof/Certificates/Slice0/Obligations.lean ====
section
/-! DEFINITION. Certificates/Slice0/Obligations.lean: what is stated about the part, chapter by chapter. In a statement about a
request, `a` is the state in which the request is handled: the part after the frame's arrival (RequestFrameArrival states
that state). -/

open Sys2Proof Sys2Proof.Machine

/-! ### Steps, power and reset -/

/-- A step takes the command at the front of the queue and runs it with the queue's rest. The queue is the model's. -/
def Obligations.StepRunsFrontCommand : Prop :=
  ∀ (s : State) (c : Instr) (rest : List Instr), s.pending = c :: rest → step s = exec c { s with pending := rest }

/-- On an empty queue time passes (chapter 4.1) until a timer is due, which then gives its event; without power nothing
happens. Which commands are due: every timer of R12, R33, R34, R68, R116, R118, R122, R129, R132, R134, R144, R152 and R169
whose instant has come, in the states in which it acts; an owed reply 2 ms after it became owed (R171); and a pending notice
after 3 ms of an idle line (R172). That the queue is empty then, the unit in which time passes, the choice among several due
commands, and that a reply begins at its latest instant are the model's choice (assumptions 2, 3 and 10). -/
def Obligations.EmptyQueueLetsTimePass : Prop :=
  (∀ s : State, s.pending = [] →
    (s.powered = false → step s = .next s) ∧
    (s.powered = true → s.dueCommands = [] → step s = .next { s with clock := s.clock + 1 }) ∧
    (∀ c, s.powered = true → s.dueCommands = [c] → step s = exec c s) ∧
    (∀ c d cs, s.powered = true → s.dueCommands = c :: d :: cs →
      ∃ e ∈ s.dueCommands, step s = exec e { s with freeCount := s.freeCount + 1 })) ∧
  (∀ (s : State) (c : Instr),
    let reached := fun t : Timer => ∃ d, t = some d ∧ d ≤ s.clock
    c ∈ s.dueCommands ↔ match c with
      | .wordTimerExpiry i => s.cams[i].port.link = .training ∧ reached s.cams[i].port.wordTimer
      | .staleDeadlineExpiry i => reached s.cams[i].ring.staleTimer
      | .lostDeadlineExpiry i => reached s.cams[i].ring.lostTimer
      | .meshInactivityExpiry => ∃ u, s.mesh.upload = some u ∧ u.deadline ≤ s.clock
      | .outputFrameStart => s.disp.state ≠ .off ∧ reached s.disp.nextStart
      | .settleTimerExpiry => s.disp.state = .starting ∧ reached s.disp.settleTimer
      | .holdTimerExpiry => s.disp.state = .hold ∧ reached s.disp.holdTimer
      | .debounceTimerExpiry n => reached s.sig.wires[n].timer
      | .refreshTimerExpiry n => reached s.sig.signals[n].timer
      | .speedTimerExpiry => reached s.sig.speedTimer
      | .releaseTimerExpiry n => ∃ e r d, s.sel.entries[n] = some e ∧ e.state = .releasing r (some d) ∧ d ≤ s.clock
      | .overrideExpiry => ∃ o d, s.sel.override = some o ∧ o.timer = some d ∧ d ≤ s.clock
      | .linkGap bytes => bytes = [] ∧ reached s.link.rx.gapTimer
      | .replyStart => s.link.tx = .idle ∧ ∃ r, s.link.owed = some r ∧ r.owedAt + 300 * 2 ≤ s.clock
      | .noticeStart => s.link.noticePending = true ∧ s.link.owed = none ∧ s.link.tx = .idle ∧
          s.link.rx.state = .hunt ∧ s.link.lastStop + 300 * 3 ≤ s.clock
      | _ => False)

/-- POWER_ON_RESET: the time base starts at zero, the line rate is the straps', the link port and the status unit are as
after power-on, and slot 0 decides what the part starts from and what is reported (R165, R166, R167, R177); a write that the
loss of power cut off has left its slot INVALID, and the other slots keep what they hold (R162). That a part which still has power, or a save in progress, goes through
a loss of power first is the model's choice (assumption 24). -/
def Obligations.PowerOnChoosesConfiguration : Prop :=
  ∀ (s : State) (a b : Bool) (found : ProfileSlot),
    (found = match s.prf.save with
      | some v => if v.slot = 0 then .invalid else s.prf.slots[0]
      | none => s.prf.slots[0]) →
    ∃ t, exec (.powerOnReset a b) s = .next t ∧
      t.powered = true ∧ t.clock = 0 ∧ t.timeBase = 0 ∧ t.prf.save = none ∧ t.sig.standby = false ∧
      t.link.bitRate = (match a, b with
        | false, false => 115200 | false, true => 230400 | true, false => 460800 | true, true => 921600) ∧
      t.link.rx = ⟨.hunt, [], none⟩ ∧ t.link.owed = none ∧ t.link.tx = .idle ∧
      t.link.counters = ⟨0, 0, 0, 0, 0, 0⟩ ∧ t.sts.events.getLsbD 31 = true ∧
      t.link.noticePending = t.sts.attn ∧
      (∀ v, s.prf.save = some v → t.prf.slots[v.slot] = .invalid) ∧
      (∀ n : Fin 4, n ≠ 0 → (∀ v, s.prf.save = some v → v.slot ≠ n) → t.prf.slots[n] = s.prf.slots[n]) ∧
      match found with
      | .valid p check =>
        if Config.profileCheck p = check then
          t.snapshot = p ∧ t.prf.slots[0] = found ∧ t.sts.errors = [] ∧ t.sts.events.getLsbD 26 = false
        else
          t.snapshot = factoryProfile ∧ t.prf.slots[0] = .invalid ∧ t.sts.errors = [⟨.profileFault, 0, 0⟩] ∧
          t.sts.events.getLsbD 26 = true
      | .invalid =>
        t.snapshot = factoryProfile ∧ t.prf.slots[0] = .invalid ∧ t.sts.errors = [⟨.profileFault, 0, 0⟩] ∧
        t.sts.events.getLsbD 26 = true
      | .empty =>
        t.snapshot = factoryProfile ∧ t.prf.slots[0] = .empty ∧ t.sts.errors = [] ∧ t.sts.events.getLsbD 26 = false

/-- Every block's state after a reset: a power-on reset, or the soft reset that an accepted RESET_PART brings at the end of its reply, at
a COLLISION, or at the first byte of a second frame (R173, R178). Each block takes its part of the configuration that slot 0 chose
(R165) and its own reset state: cameras (R20, R43, R59), mesh store (R72), view table (R94), selector (R155), composer (R114), display
output (R125), signal unit (R129, R132, R140), status unit and profile store (R162, R166); of the link port, nothing is owed or sent.
The model's choices and readings: a collision is an event of its own (assumption 9), the sampling phase is 0 (assumption 12), the
PROFILE_FAULT's error entry latches ERROR_PENDING (assumption 20), and POWER_ON_RESET at a part that still has power goes through a loss
of power and leaves no picture on the monitor (assumption 24), and a frame that a soft reset into OFF cuts off stays on the monitor
(assumption 36). -/
def Obligations.ResetLeavesEveryBlock : Prop :=
  ∀ (s t : State) (r : Reply) (found : ProfileSlot) (p : Profile),
    let power := ∃ a b, exec (.powerOnReset a b) s = .next t
    let soft := s.powered = true ∧ s.link.owed = some r ∧ r.type = 0x82#8 ∧ r.code = .ok ∧
      ((s.link.tx = .reply ∧ exec .replyEnd s = .next t) ∨ (∃ b f, exec (.collision b f) s = .next t) ∨ t = s.frameArrives)
    let corrupt := ∃ q check, found = .valid q check ∧ Config.profileCheck q ≠ check
    let fault := found = .invalid ∨ corrupt
    power ∨ soft →
    (found = match s.prf.save with
      | some v => if v.slot = 0 then .invalid else s.prf.slots[0]
      | none => s.prf.slots[0]) →
    (p = match found with
      | .valid q check => if Config.profileCheck q = check then q else factoryProfile
      | _ => factoryProfile) →
    (∀ i : Fin 4, ∃ q : Port,
      q = { config := p.ports[i]
            link := if p.ports[i].enabled then .down else .disabled
            carrier := s.cams[i].port.carrier
            linkPower := true, wasEnabled := false
            record := ⟨Vector.replicate 32 .notTried, none, 0, none, 0⟩
            phase := 0, words := [], wordTimer := none, frameOpen := false, expectedLine := 0, rejections := 0
            counters := ⟨0, 0, 0, 0, 0, 0, 0, 0⟩ } ∧
      t.cams[i] = Cam.emptied
        { port := if q.config.enabled && q.carrier then q.sweeping t.clock else q
          ring := s.cams[i].ring
          meter := ⟨p.meters[i], 0, 0, []⟩ }
        t.clock q.config.enabled) ∧
    (∀ i : Fin 8, t.mesh.slots[i] = match p.meshes[i] with
      | some m => .ready m
      | none => .free) ∧
    t.mesh.upload = none ∧ t.views = p.views ∧
    (∀ i : Fin 16, (t.sel.entries[i]).map Entry.config = p.table[i] ∧ ∀ e, t.sel.entries[i] = some e →
      e.state = if EntryConfig.termsHold e.config t.sig.values then .held else .idle) ∧
    t.sel.override = none ∧ t.sel.defaultView = p.defaultView ∧ t.sel.active = t.sel.choice ∧
    t.sel.selected = t.sel.viewOf t.sel.active ∧ t.sel.activation = t.timeBase ∧
    t.comp = ⟨none, none, false, 0, 0⟩ ∧
    t.disp.enable = p.outputEnable ∧ t.disp.current = p.timing ∧ t.disp.staged = none ∧ t.disp.holdPending = false ∧
    t.disp.holdTimer = none ∧ t.disp.framesShown = 0 ∧ t.disp.framesRepeated = 0 ∧
    (p.outputEnable = true → t.disp.state = .starting ∧ t.disp.settleTimer = some (t.clock + 300 * 200) ∧
      t.disp.nextStart = some (t.clock + 5000) ∧ t.disp.sending = .black) ∧
    (p.outputEnable = false → t.disp.state = .off ∧ t.disp.settleTimer = none ∧ t.disp.nextStart = none ∧
      t.disp.sending = .nothing ∧ (power → t.disp.shown = none) ∧
      (soft → ∀ X Y, t.displayPixel X Y = s.displayPixel X Y)) ∧
    t.sig.config = p.signals ∧
    (∀ n : Fin 6, t.sig.wires[n].raw = s.sig.wires[n].raw ∧ t.sig.wires[n].accepted = s.sig.wires[n].raw ∧
      t.sig.wires[n].timer = none) ∧
    t.sig.speed = none ∧ t.sig.speedFresh = false ∧ t.sig.speedTimer = none ∧ t.sig.standby = false ∧
    (∀ i : Fin 16, t.sig.signals[i] = match t.sig.config.signals[i].source with
      | .wire n => ⟨t.sig.active n, .none, none⟩
      | _ => ⟨t.sig.config.signals[i].failRule == .setTrue, .stale, none⟩) ∧
    (∀ n : Fin 32, t.sts.conditions.getLsbD n = t.conditionItem n) ∧
    (power → t.sts.enable = p.enableMask ∧ ∀ n : Fin 32, t.sts.events.getLsbD n = true ↔
      n = 31 ∨ (fault ∧ (n = 26 ∨ n = 29))) ∧
    (soft → t.sts.enable = s.sts.enable ∧ t.sts.events.getLsbD 31 = true ∧ (fault → t.sts.events.getLsbD 26 = true) ∧
      ∀ n, s.sts.events.getLsbD n = true → t.sts.events.getLsbD n = true) ∧
    (t.sts.attn = true ↔ ∃ n : Fin 32, t.sts.events.getLsbD n = true ∧ t.sts.enable.getLsbD n = true) ∧
    t.prf.save = none ∧ (∀ v, s.prf.save = some v → t.prf.slots[v.slot] = .invalid) ∧
    (∀ n : Fin 4, n ≠ 0 → (∀ v, s.prf.save = some v → v.slot ≠ n) → t.prf.slots[n] = s.prf.slots[n]) ∧
    (corrupt → t.prf.slots[0] = .invalid) ∧ (¬corrupt → t.prf.slots[0] = found) ∧
    t.link.owed = none ∧ t.link.tx = .idle

/-- An accepted RESET_PART takes effect in the event that ends its reply (R173, R178): at REPLY_END, at a COLLISION, or at the first byte
of a second frame. The time base, the line rate and the enable mask are kept, the event set and the error queue are kept but for
what the collision, before, and the reset itself report, notice pending stays when it was set, a save in progress is abandoned
and its slot INVALID, the other slots keep what they hold, and the link counters are 0 (R165, R166, R177). The byte of the collision is taken in HUNT after the reset; the
second frame is then received by the reset part. That its collision is an event of its own is the model's choice (assumption 9). -/
def Obligations.SoftResetAtReplyEnd : Prop :=
  ∀ (s : State) (r : Reply) (found : ProfileSlot),
    s.powered = true → s.link.owed = some r → r.type = 0x82#8 → r.code = .ok →
    (found = match s.prf.save with
      | some v => if v.slot = 0 then .invalid else s.prf.slots[0]
      | none => s.prf.slots[0]) →
    let leaves := fun (t : State) (errors : List ErrorEntry) =>
      t.powered = true ∧ t.clock = s.clock ∧ t.link.rate = s.link.rate ∧ t.link.owed = none ∧ t.link.tx = .idle ∧
      (s.link.noticePending = true → t.link.noticePending = true) ∧
      t.sts.enable = s.sts.enable ∧
      t.sts.events.getLsbD 31 = true ∧ (∀ n, s.sts.events.getLsbD n = true → t.sts.events.getLsbD n = true) ∧
      t.prf.save = none ∧ (∀ v, s.prf.save = some v → t.prf.slots[v.slot] = .invalid) ∧
      (∀ n : Fin 4, n ≠ 0 → (∀ v, s.prf.save = some v → v.slot ≠ n) → t.prf.slots[n] = s.prf.slots[n]) ∧
      match found with
      | .valid p check =>
        if Config.profileCheck p = check then
          t.snapshot = { p with enableMask := s.sts.enable } ∧ t.prf.slots[0] = found ∧ t.sts.errors = errors
        else
          t.snapshot = { factoryProfile with enableMask := s.sts.enable } ∧ t.prf.slots[0] = .invalid ∧
          t.sts.events.getLsbD 26 = true ∧ t.sts.errors = pushError errors ⟨.profileFault, 0, s.timeBase % 65536⟩
      | .invalid =>
        t.snapshot = { factoryProfile with enableMask := s.sts.enable } ∧ t.prf.slots[0] = .invalid ∧
        t.sts.events.getLsbD 26 = true ∧ t.sts.errors = pushError errors ⟨.profileFault, 0, s.timeBase % 65536⟩
      | .empty =>
        t.snapshot = { factoryProfile with enableMask := s.sts.enable } ∧ t.prf.slots[0] = .empty ∧ t.sts.errors = errors
    let collided := pushError s.sts.errors ⟨.linkCollision, 0x82, s.timeBase % 65536⟩
    let hunt : Receiver := ⟨.hunt, [], none⟩
    (s.link.tx = .reply → ∃ t, exec .replyEnd s = .next t ∧ leaves t s.sts.errors ∧
      t.link.rx = hunt ∧ t.link.counters = ⟨0, 0, 0, 0, 0, 0⟩ ∧ t.link.lastStop = s.clock) ∧
    (∀ (b : Byte) (f : Bool), ∃ t, exec (.collision b f) s = .next t ∧ leaves t collided ∧
      t.link.rx = (if f = false ∧ b = 0xC5#8 then ⟨.length, [0xC5#8], none⟩ else hunt) ∧
      t.link.counters = ⟨0, 0, 0, 0, 0, 0⟩ ∧ t.link.lastStop = s.clock) ∧
    leaves s.frameArrives collided ∧ s.frameArrives.sig.standby = false ∧
    s.frameArrives.link.rx = hunt ∧ s.frameArrives.link.counters = ⟨1, 0, 0, 0, 0, 0⟩ ∧
    s.frameArrives.link.lastStop = s.clock

/-- POWER_LOSS: the part loses power, and a write in progress leaves its slot INVALID (R162). That the slot is INVALID at once and the
rest of the state kept until the next POWER_ON_RESET, and what commands do at a part without power, are the model's choice
(assumption 24): the carrier levels and the levels of the wired inputs still change, and nothing else does. -/
def Obligations.PowerLossCutsTheWrite : Prop :=
  (∀ s : State, s.powered = true →
    (s.prf.save = none → exec .powerLoss s = .next { s with powered := false }) ∧
    (∀ v, s.prf.save = some v → exec .powerLoss s = .next
      { s with powered := false, prf := ⟨s.prf.slots.set v.slot .invalid, none⟩ })) ∧
  (∀ s : State, s.powered = false →
    let carrier := fun (i : Fin 4) (level : Bool) => (Host.Outcome.next
      (s.setCam i { s.cams[i] with port := { s.cams[i].port with carrier := level } }) : Host.Outcome State Fault Refusal)
    (∀ i : Fin 4, exec (.carrierPresent i) s = carrier i true ∧ exec (.carrierLost i) s = carrier i false) ∧
    (∀ (n : Fin 6) (level : Bool), exec (.rawChange n level) s = .next { s with
      sig := { s.sig with wires := s.sig.wires.set n { s.sig.wires[n] with raw := level } } }) ∧
    (∀ c : Instr, (∀ a b, c ≠ .powerOnReset a b) → (∀ i, c ≠ .carrierPresent i) → (∀ i, c ≠ .carrierLost i) →
      (∀ n level, c ≠ .rawChange n level) → exec c s = .next s))

/-! ### The end of an event and the arrival of a request -/

/-- The end of an event touches the status unit and notice pending alone: the condition set takes the owners' values, an item
that becomes true latches its event and no latched event is lost, ATTN follows, and ATTN's rise requests a notice (R156,
R157). -/
def Obligations.EventEndLatchesAndRaisesAttn : Prop :=
  ∀ s t : State, t = s.settle →
    t = { s with sts := t.sts, link := { s.link with noticePending := t.link.noticePending } } ∧
    t.sts.enable = s.sts.enable ∧ t.sts.errors = s.sts.errors ∧
    (∀ n : Fin 32, t.sts.conditions.getLsbD n = s.conditionItem n) ∧
    (∀ n : Fin 32, t.sts.events.getLsbD n =
      (s.sts.events.getLsbD n || (s.conditionItem n && !s.sts.conditions.getLsbD n))) ∧
    (t.sts.attn = true ↔ ∃ n : Fin 32, t.sts.events.getLsbD n = true ∧ t.sts.enable.getLsbD n = true) ∧
    (t.link.noticePending = true ↔ s.link.noticePending = true ∨ (s.sts.attn = false ∧ t.sts.attn = true))

/-- The arrival of a request's frame (R170 step 1, R173): an owed reply or a notice in progress is dropped by the frame's first
byte, with its counter and its error entry; *frames received* advances; and a part in standby wakes: each port that recorded
being enabled is powered and a present carrier begins a sweep, its lost deadline starts, the output enters STARTING if its
output enable is yes, and WOKE is latched (R22, R33, R125, R139). An awake part with nothing owed or sent changes in its link
port alone. The drop of an accepted RESET_PART's reply is stated apart. That the collision and the wake end as events of their
own is the model's choice (assumptions 9 and 14). -/
def Obligations.RequestFrameArrival : Prop :=
  ∀ s : State,
    let a := s.frameArrives
    let next := fun n : Nat => min (n + 1) 4294967295
    let entry := fun detail : Nat => pushError s.sts.errors ⟨.linkCollision, detail, s.timeBase % 65536⟩
    let resets := ∃ r, s.link.owed = some r ∧ r.type = 0x82#8 ∧ r.code = .ok
    let drops := s.link.owed = none ∧ s.link.tx ≠ .idle
    (s.link.owed = none → s.link.tx = .idle → s.sig.standby = false →
      a = { s with link := { s.link with
        rx := ⟨.hunt, [], none⟩, lastStop := s.clock
        counters := { s.link.counters with framesReceived := next s.link.counters.framesReceived } } }) ∧
    (a.sig.standby = false ∧ a.link.owed = none ∧ a.link.tx = .idle) ∧
    (resets → a.link.counters.framesReceived = 1) ∧
    (¬resets →
      a = { s with
        cams := a.cams, disp := a.disp, sig := { s.sig with standby := false }
        sts := { a.sts with enable := s.sts.enable }
        link := { s.link with
          rx := ⟨.hunt, [], none⟩, owed := none, tx := .idle, lastStop := s.clock, noticePending := a.link.noticePending
          counters := { s.link.counters with
            framesReceived := next s.link.counters.framesReceived
            repliesDropped := a.link.counters.repliesDropped
            noticesDropped := a.link.counters.noticesDropped } } } ∧
      (∀ r, s.link.owed = some r → a.sts.errors = entry r.type.toNat ∧
        a.link.counters.repliesDropped = next s.link.counters.repliesDropped) ∧
      (s.link.owed = none → a.link.counters.repliesDropped = s.link.counters.repliesDropped) ∧
      (drops → a.sts.errors = entry 0x7E ∧ a.link.counters.noticesDropped = next s.link.counters.noticesDropped) ∧
      (¬drops → a.link.counters.noticesDropped = s.link.counters.noticesDropped) ∧
      (s.link.owed = none → s.link.tx = .idle → a.sts.errors = s.sts.errors) ∧
      (∀ n, s.sts.events.getLsbD n = true → a.sts.events.getLsbD n = true) ∧
      (s.link.noticePending = true → a.link.noticePending = true) ∧
      (s.sig.standby = false → a.cams = s.cams ∧ a.disp = s.disp) ∧
      (s.sig.standby = true → a.sts.events.getLsbD 30 = true ∧
        (∀ i : Fin 4, a.cams[i] =
          if s.cams[i].port.wasEnabled then
            { s.cams[i] with
              port :=
                (let p := { s.cams[i].port with linkPower := true, wasEnabled := false }
                 if p.carrier then p.sweeping s.clock else p)
              ring := { s.cams[i].ring with
                lostTimer := some (s.clock + 300 * s.cams[i].port.config.items.lostLimit) } }
          else s.cams[i]) ∧
        (s.disp.state = .off → a.disp =
          if s.disp.enable then { s.disp with
            state := .starting, current := s.disp.staged.getD s.disp.current, staged := none, holdPending := false
            settleTimer := some (s.clock + 300 * 200), holdTimer := none, nextStart := some (s.clock + 5000)
            sending := .black, heldPicture := none }
          else s.disp) ∧
        (s.disp.state ≠ .off → a.disp = s.disp)))

/-- An IDENTIFY frame, with nothing owed or sent, wakes a part in standby before it is handled: each port that recorded being enabled is powered and
a present carrier begins a sweep, its lost deadline starts, the display output enters STARTING if its output enable is yes, and
WOKE is given (R22, R33, R125, R139). IDENTIFY's own effect changes
nothing; RequestFrameArrival states the arrival of every request's frame. -/
def Obligations.FrameWakesThePart : Prop :=
  ∀ (s : State) (h : Header),
    s.powered = true → s.sig.standby = true → s.link.owed = none → s.link.tx = .idle → h.len = 0 →
    ∃ t, exec (.identify h) s = .next t ∧
      t.sig = { s.sig with standby := false } ∧ t.sts.events.getLsbD 30 = true ∧
      (∀ i : Fin 4, t.cams[i] =
        if s.cams[i].port.wasEnabled then
          { s.cams[i] with
            port :=
              (let p := { s.cams[i].port with linkPower := true, wasEnabled := false }
               if p.carrier then p.sweeping s.clock else p)
            ring := { s.cams[i].ring with
              lostTimer := some (s.clock + 300 * s.cams[i].port.config.items.lostLimit) } }
        else s.cams[i]) ∧
      (s.disp.state = .off →
        t.disp.state = (if s.disp.enable then .starting else .off) ∧
        t.disp.current = (if s.disp.enable then s.disp.staged.getD s.disp.current else s.disp.current) ∧
        t.disp.staged = (if s.disp.enable then none else s.disp.staged) ∧
        t.disp.settleTimer = (if s.disp.enable then some (s.clock + 300 * 200) else s.disp.settleTimer)) ∧
      t.mesh = s.mesh ∧ t.views = s.views ∧ t.sel = s.sel ∧ t.comp = s.comp ∧ t.prf = s.prf

/-- A frame whose type is not a request type is refused with UNKNOWN_TYPE, and a request whose payload length the catalogue does
not allow with BAD_LENGTH; neither has an effect on any block (R170 steps 2 and 3, R175). -/
def Obligations.UnknownOrWrongLengthRefused : Prop :=
  ∀ (s : State) (h : Header), s.powered = true →
    let a := s.frameArrives
    let refused := fun type : Byte => (Host.Outcome.next (a.answered type h .badLength .nothing) :
      Host.Outcome State Fault Refusal)
    (∀ type : Byte, type ∉ requestTypes →
      exec (.unknownType type h) s = .next (a.answered type h .unknownType .nothing)) ∧
    (h.len ≠ 0 →
      exec (.identify h) s = refused 0x01#8 ∧ exec (.resetPart h) s = refused 0x02#8 ∧
      exec (.cancelOverride h) s = refused 0x34#8 ∧ exec (.readSignals h) s = refused 0x3A#8 ∧
      exec (.enterStandby h) s = refused 0x3B#8 ∧ exec (.outputEnable h) s = refused 0x40#8 ∧
      exec (.outputDisable h) s = refused 0x41#8 ∧ exec (.outputHold h) s = refused 0x42#8 ∧
      exec (.outputResume h) s = refused 0x43#8 ∧ exec (.readConditions h) s = refused 0x48#8 ∧
      exec (.readEvents h) s = refused 0x49#8 ∧ exec (.readError h) s = refused 0x4B#8) ∧
    (h.len ≠ 1 → ∀ n,
      exec (.cameraEnable h n) s = refused 0x11#8 ∧ exec (.cameraDisable h n) s = refused 0x12#8 ∧
      exec (.cameraRetrain h n) s = refused 0x13#8 ∧ exec (.readCameraReport h n) s = refused 0x14#8 ∧
      exec (.meshEnd h n) s = refused 0x22#8 ∧ exec (.meshFree h n) s = refused 0x23#8 ∧
      exec (.overlayClear h n) s = refused 0x29#8 ∧ exec (.deleteView h n) s = refused 0x2B#8 ∧
      exec (.clearSelectionEntry h n) s = refused 0x31#8 ∧ exec (.setDefaultView h n) s = refused 0x32#8 ∧
      exec (.setOutputTiming h n) s = refused 0x44#8 ∧ exec (.saveProfile h n) s = refused 0x50#8 ∧
      exec (.loadProfile h n) s = refused 0x51#8) ∧
    (h.len ≠ 21 → ∀ n items, exec (.setCameraConfig h n items) s = refused 0x10#8) ∧
    (h.len ≠ 20 → ∀ n items, exec (.setMetering h n items) s = refused 0x18#8) ∧
    (h.len ≠ 3 → ∀ n m k part,
      exec (.meshBegin h n m k) s = refused 0x20#8 ∧ exec (.readView h n part) s = refused 0x2C#8) ∧
    (h.len ≠ 6 → ∀ n m k, exec (.overrideView h n m k) s = refused 0x33#8) ∧
    (h.len ≠ 2 → ∀ part, exec (.readSelection h part) s = refused 0x35#8) ∧
    (h.len ≠ 112 → ∀ config, exec (.setSignalConfig h config) s = refused 0x39#8) ∧
    (h.len ≠ 4 → ∀ mask, exec (.setEventEnable h mask) s = refused 0x4A#8) ∧
    (∀ (slot row : Byte) (nodes : List Byte), (h.len ≠ 2 + nodes.length ∨ ¬4 ∣ nodes.length ∨ 248 < h.len) →
      exec (.meshRows h slot row nodes) s = refused 0x21#8) ∧
    (∀ view count tiles, (count ≠ List.length tiles ∨ h.len ≠ 2 + 22 * tiles.length) →
      exec (.defineView h view count tiles) s = refused 0x28#8) ∧
    (∀ view count prims, (count ≠ List.length prims ∨ h.len ≠ 2 + 18 * prims.length) →
      exec (.overlayAppend h view count prims) s = refused 0x2A#8) ∧
    (∀ entry fields, (fields.termCount ≠ fields.terms.length ∨ h.len ≠ 9 + 2 * fields.terms.length) →
      exec (.setSelectionEntry h entry fields) s = refused 0x30#8)

/-! ### Camera ports (chapter 1) -/

/-- CARRIER_PRESENT (R2, R7, R9): in DOWN an enabled, powered port begins a sweep; elsewhere only the level is noted. -/
def Obligations.CarrierPresentBeginsSweep : Prop :=
  ∀ (s : State) (i : Fin 4), s.powered = true →
    let c := s.cams[i]
    (c.port.link = .down → c.port.linkPower = true →
      exec (.carrierPresent i) s = .next (State.settle (s.setCam i
        { c with port := Port.sweeping { c.port with carrier := true } s.clock }))) ∧
    (c.port.link ≠ .down ∨ c.port.linkPower = false →
      exec (.carrierPresent i) s = .next (State.settle (s.setCam i { c with port := { c.port with carrier := true } })))

/-- What a flush of one camera does to the rest of the part (R32, R42, R101): the composer's reference to that camera's slot is
withdrawn, the pixels drawn before it standing as they are, its other references are kept, and nothing else changes. The number of
pixels drawn before the withdrawal is a free value, never less than was known before (assumption 4). -/
def Obligations.FlushWithdrawsTheReference : Prop :=
  ∀ (s : State) (i : Fin 4) (c : Cam),
    let t := s.flushCam i c
    t.cams[i] = c ∧ camsAgreeBut i s.cams t.cams ∧
    t = { s with cams := t.cams, comp := { s.comp with context := t.comp.context }, freeCount := t.freeCount } ∧
    (s.comp.context = none → t.comp.context = none ∧ t.freeCount = s.freeCount) ∧
    (∀ ctx, s.comp.context = some ctx → t.freeCount = s.freeCount + 1 ∧ ∃ drawn, ctx.drawn ≤ drawn ∧
      let withdrawn := fun l : LatchedCamera =>
        { l with withdrawnAt := if l.withdrawnAt = none then some drawn else l.withdrawnAt }
      let cams := if ctx.slotRefs[i] = none then ctx.frame.cams
        else ctx.frame.cams.set i (ctx.frame.cams[i].map withdrawn)
      t.comp.context = some { ctx with
        drawn := drawn, slotRefs := ctx.slotRefs.set i none, frame := { ctx.frame with cams := cams } })

/-- CARRIER_LOST (R7, R42, R50): in TRAINING, LOCKED or FAILED the port abandons its work uncounted, the attempt count becomes
0, the ring and the metering unit are flushed with the lost deadline started, and the port enters DOWN; in DISABLED and DOWN
only the level is noted. -/
def Obligations.CarrierLostEntersDown : Prop :=
  ∀ (s : State) (i : Fin 4), s.powered = true →
    let c := s.cams[i]
    (c.port.link = .training ∨ c.port.link = .locked ∨ c.port.link = .failed →
      exec (.carrierLost i) s = .next (State.settle (s.flushCam i (Cam.emptied
        { c with port := { c.port.atRest with
          carrier := false, link := .down, record := { c.port.record with attempts := 0 } } } s.clock true)))) ∧
    (c.port.link = .disabled ∨ c.port.link = .down →
      exec (.carrierLost i) s = .next (State.settle (s.setCam i { c with port := { c.port with carrier := false } })))

/-- TRAINING_WORD (R10, R11, R12): before the sixteenth word of a phase the word is kept; with the sixteenth the phase is judged
and the next one tested; after phase 31 the port locks at the middle of its window, or the attempt fails. Each word restarts
the word timer. Outside TRAINING a word is ignored. -/
def Obligations.TrainingWordTaken : Prop :=
  ∀ (s : State) (i : Fin 4) (w : BitVec 10), s.powered = true →
    let c := s.cams[i]
    let p := c.port
    let timer := some (s.clock + 300 * 200)
    (p.link ≠ .training → exec (.trainingWord i w) s = .next s) ∧
    (p.link = .training → p.words.length < 15 →
      exec (.trainingWord i w) s = .next (State.settle (s.setCam i
        { c with port := { p with words := p.words ++ [w], wordTimer := timer } }))) ∧
    (∀ h : p.phase < 31, p.link = .training → p.words.length = 15 →
      exec (.trainingWord i w) s = .next (State.settle (s.setCam i
        { c with port := { p with
          words := [], wordTimer := timer, phase := p.phase + 1
          record := { p.record with
            passMap := p.record.passMap.set p.phase (judgePhase p.config.items (p.words ++ [w]))
              (Nat.lt_trans h (by decide)) } } }))) ∧
    (p.phase = 31 → p.link = .training → p.words.length = 15 →
      let map := p.record.passMap.set 31 (judgePhase p.config.items (p.words ++ [w]))
      let r : TrainingRecord := { p.record with
        passMap := map, windowStart := (windowOf map).1, windowWidth := (windowOf map).2 }
      (p.config.items.minWindow ≤ r.windowWidth →
        let chosen := r.windowStart.getD 0 + (r.windowWidth - 1) / 2
        exec (.trainingWord i w) s = .next (State.settle (s.setCam i
          { c with port := { p with
            link := .locked, record := { r with chosenPhase := some chosen }, phase := chosen
            words := [], wordTimer := none, frameOpen := false, expectedLine := 0 } }))) ∧
      (r.windowWidth < p.config.items.minWindow →
        exec (.trainingWord i w) s = .next (State.settle (s.setCam i
          { c with port := Port.attemptFailed { p with words := [], wordTimer := timer } r s.clock }))))

/-- WORD_TIMER_EXPIRY, STALE_DEADLINE_EXPIRY and LOST_DEADLINE_EXPIRY (R12, R33, R34): at the word timer's instant in TRAINING the attempt
fails with the window of the entries judged so far, and the next attempt begins or the third failure leaves FAILED; at the deadlines FRESH
becomes STALE with the frames kept, and the picture LOST with the stale deadline stopped; a stopped timer does not expire. That an expiry
brings the clock to its instant is the model's choice (assumption 11). -/
def Obligations.CameraTimersExpire : Prop :=
  (∀ (s : State) (i : Fin 4), s.powered = true →
     let c := s.cams[i]
     let r := c.port.record
     (∀ d, c.port.link = .training → c.port.wordTimer = some d →
       let now := max s.clock d
       let judged := { r with windowStart := (windowOf r.passMap).1, windowWidth := (windowOf r.passMap).2 }
       exec (.wordTimerExpiry i) s = .next (State.settle (State.setCam { s with clock := now } i
         { c with port := c.port.attemptFailed judged now }))) ∧
     (c.port.link ≠ .training ∨ c.port.wordTimer = none → exec (.wordTimerExpiry i) s = .next s)) ∧
  (∀ (s : State) (i : Fin 4), s.powered = true →
     let c := s.cams[i]
     (∀ d, c.ring.staleTimer = some d →
       exec (.staleDeadlineExpiry i) s = .next (State.settle (State.setCam { s with clock := max s.clock d } i
         { c with ring := { c.ring with
           staleTimer := none, picture := if c.ring.picture = .fresh then .stale else c.ring.picture } }))) ∧
     (∀ d, c.ring.lostTimer = some d →
       exec (.lostDeadlineExpiry i) s = .next (State.settle (State.setCam { s with clock := max s.clock d } i
         { c with ring := { c.ring with lostTimer := none, staleTimer := none, picture := .lost } }))) ∧
     (c.ring.staleTimer = none → exec (.staleDeadlineExpiry i) s = .next s) ∧
     (c.ring.lostTimer = none → exec (.lostDeadlineExpiry i) s = .next s))

/-- The judgement of a phase (R10): with four different training words, sixteen words pass exactly when they run through the cycle of
four from the slot that the first of them equals. The window of a pass map (R11): the longest run of PASS entries, the lowest start among
the longest, and no run from phase 31 on to phase 0; no start and width 0 when no phase passed. -/
def Obligations.TrainingJudgedByItsWords : Prop :=
  (∀ (p : PortItems) (words : List (BitVec 10)), p.wordsDiffer = true → words.length = 16 →
     (judgePhase p words = .pass ∨ judgePhase p words = .fail) ∧
     (judgePhase p words = .pass ↔
       ∃ k < 4, ∀ (i : Nat) (h : i < words.length),
         words[i].toNat = match (k + i) % 4 with | 0 => p.word0 | 1 => p.word1 | 2 => p.word2 | _ => p.word3)) ∧
  (∀ (map : Vector PhaseResult 32),
     let run := fun a w : Nat => a + w ≤ 32 ∧ ∀ (i : Nat) (h : i < 32), a ≤ i → i < a + w → map[i] = .pass
     ((∀ (i : Nat) (h : i < 32), map[i] ≠ .pass) → windowOf map = (none, 0)) ∧
     ((∃ (i : Nat) (h : i < 32), map[i] = .pass) →
       ∃ a w, windowOf map = (some a, w) ∧ 1 ≤ w ∧ run a w ∧
         ∀ b v, run b v → v ≤ w ∧ (v = w → a ≤ b)))

/-! ### Frames and rings (chapters 1 and 2) -/

/-- FRAME_START (R13, R26, R38, R39): an open frame is truncated and counted, the interval since the previous start enters the
measurement, and the lowest-numbered FREE slot becomes FILLING with a cleared record. Outside LOCKED nothing happens. That an
arrival is noted by the last whole 0.01 ms that has passed is the model's choice (assumption 33). -/
def Obligations.FrameStartOpensASlot : Prop :=
  ∀ (s : State) (i : Fin 4) (number : Byte), s.powered = true →
    let c := s.cams[i]
    let freed : Vector Slot 3 := mapTable (fun x => match x with | .filling _ => .free | y => y) c.ring.slots
    let now := s.clock / 3
    (c.port.link ≠ .locked → exec (.frameStart i number) s = .next s) ∧
    (c.port.link = .locked → slotsSafe c.ring.slots.toList →
      ∃ k : Fin 3, freed[k] = .free ∧ (∀ j : Fin 3, j < k → freed[j] ≠ .free) ∧
        exec (.frameStart i number) s = .next (State.settle (s.setCam i
          { c with
            ring := { c.ring with
              slots := freed.set k (.filling ⟨⟨none, number, none, ⟨0, 0, 0, []⟩⟩, []⟩)
              prevStart := some now
              intervals :=
                match c.ring.prevStart with
                | none => c.ring.intervals
                | some before =>
                  if 10 * c.port.config.items.lostLimit < (now - before + 5) / 10 then []
                  else (if c.ring.intervals.length < 8 then c.ring.intervals else c.ring.intervals.drop 1) ++
                    [(now - before + 5) / 10] }
            port := { c.port with
              frameOpen := true, expectedLine := 0
              counters := { c.port.counters with
                truncated := if c.port.frameOpen then min (c.port.counters.truncated + 1) 4294967295
                  else c.port.counters.truncated } } })))

/-- LINE (R1, R14): outside LOCKED, or with no frame open, it has no effect; an index at or above H or below the expected line is
counted as a line error; otherwise the missing lines are repaired in order, the line is written or, when its check or its pixel
count is wrong, repaired, and the expected line moves on. -/
def Obligations.LinePlacedByItsIndex : Prop :=
  ∀ (s : State) (i : Fin 4) (index check : BitVec 16) (pixels : List Pixel), s.powered = true →
    let c := s.cams[i]
    let n := index.toNat
    let e := c.port.expectedLine
    let damaged :=
      crc16 ([(index >>> 8).truncate 8, index.truncate 8] ++ pixels.flatMap fun q => [q.r, q.g, q.b]) ≠ check ∨
      pixels.length ≠ c.port.config.items.width
    let reached := c.repairLines e (n - e)
    let moved := fun d : Cam => { d with port := { d.port with expectedLine := n + 1 } }
    let written := fun x : Slot => match x with
      | .filling f => .filling
        { record := { f.record with repair := { f.record.repair with run := 0 } }, rows := f.rows ++ [pixels] }
      | y => y
    (c.port.link ≠ .locked ∨ c.port.frameOpen = false → exec (.line i index pixels check) s = .next s) ∧
    (c.port.link = .locked → c.port.frameOpen = true →
      (c.port.config.items.height ≤ n ∨ n < e →
        exec (.line i index pixels check) s = .next (State.settle (s.setCam i
          { c with port := { c.port with counters := { c.port.counters with
            lineErrors := min (c.port.counters.lineErrors + 1) 4294967295 } } }))) ∧
      (e ≤ n → n < c.port.config.items.height → damaged →
        exec (.line i index pixels check) s = .next (State.settle (s.setCam i (moved (reached.repairLine n))))) ∧
      (e ≤ n → n < c.port.config.items.height → ¬damaged →
        exec (.line i index pixels check) s = .next (State.settle (s.setCam i (moved
          { reached with ring := { reached.ring with slots := mapTable written reached.ring.slots } })))))

/-- The repair of line `i` (R15, R16): the substitute is row i of the newest accepted frame held, else the row above in the frame
being filled, else mid-grey; the repair record counts it and lists the first eight; nothing else of the ring changes. Missing
lines are repaired one after the other in increasing order (R14, R17). -/
def Obligations.RepairUsesTheNewestFrame : Prop :=
  (∀ (c : Cam) (first count : Nat),
    c.repairLines first count = (List.range count).foldl (fun d j => d.repairLine (first + j)) c) ∧
  ∀ (c : Cam) (i : Nat) (k : Fin 3) (f : Frame),
    slotsSafe c.ring.slots.toList → c.ring.slots[k] = .filling f →
    let newest := fun g : Frame =>
      (∃ j : Fin 3, c.ring.slots[j] = .ready g) ∨
      ((∀ (j : Fin 3) (x : Frame), c.ring.slots[j] ≠ .ready x) ∧ ∃ j : Fin 3, c.ring.slots[j] = .showing g)
    let r := f.record.repair
    ∃ row : List Pixel,
      (∀ g x, newest g → g.rows[i]? = some x → row = x) ∧
      (∀ x, (∀ g, newest g → g.rows[i]? = none) → 0 < i → f.rows[i - 1]? = some x → row = x) ∧
      ((∀ g, newest g → g.rows[i]? = none) → i = 0 →
        row = List.replicate c.port.config.items.width (rgb 128 128 128)) ∧
      c.repairLine i =
        { c with
          ring := { c.ring with slots := c.ring.slots.set k (.filling
            { record := { f.record with repair := {
                damaged := r.damaged + 1, run := r.run + 1, longest := max r.longest (r.run + 1)
                lines := if r.lines.length < 8 then r.lines ++ [i] else r.lines } }
              rows := f.rows ++ [row] }) }
          port := { c.port with counters := { c.port.counters with
            linesRepaired := min (c.port.counters.linesRepaired + 1) 4294967295 } } }

/-- FRAME_END (R17, R27, R28, R41, R47): the missing lines are repaired and the frame is judged by its damaged count and longest
run. Acceptance drops an unclaimed READY frame, makes the frame READY with its sequence and arrival time, makes the picture FRESH,
starts both deadlines and meters the frame; rejection frees the slot; the third rejection in a row flushes and retrains. With no
frame open, or outside LOCKED, nothing happens. An open frame has its FILLING slot: StepKeepsCamerasInOrder
states that invariant. -/
def Obligations.FrameEndJudgesTheFrame : Prop :=
  ∀ (s : State) (i : Fin 4) (lineCount : Nat), s.powered = true →
    let c := s.cams[i]
    let items := c.port.config.items
    let d := c.repairLines c.port.expectedLine (items.height - c.port.expectedLine)
    let count := (d.ring.acceptCount + 1) % 4294967296
    let closed := { d.port with frameOpen := false, expectedLine := 0 }
    let rejected : Cam := { d with
      ring := { d.ring with slots := mapTable (fun x => match x with | .filling _ => .free | y => y) d.ring.slots }
      port := { closed with
        rejections := d.port.rejections + 1
        counters := { d.port.counters with rejected := min (d.port.counters.rejected + 1) 4294967295 } } }
    (c.port.link ≠ .locked ∨ c.port.frameOpen = false → exec (.frameEnd i lineCount) s = .next s) ∧
    (∀ f, c.port.link = .locked → c.port.frameOpen = true → d.ring.fillingFrame = some f →
      let good := f.record.repair.damaged ≤ items.damageLimit ∧ f.record.repair.longest ≤ items.runLimit
      (good →
        exec (.frameEnd i lineCount) s = .next (State.settle (s.setCam i
          { port := { closed with
              rejections := 0
              counters := { d.port.counters with
                accepted := min (d.port.counters.accepted + 1) 4294967295
                dropped := if d.ring.readyFrame.isSome then min (d.port.counters.dropped + 1) 4294967295
                  else d.port.counters.dropped } }
            ring := { d.ring with
              slots := mapTable (fun x => match x with
                | .ready _ => .free
                | .filling g => .ready { g with record := { g.record with
                    sequence := some count, arrival := some s.timeBase } }
                | y => y) d.ring.slots
              acceptCount := count
              picture := .fresh
              staleTimer := some (s.clock +
                300 * max 50 (min ((3 * d.ring.estimate items.period + 5) / 10) 500))
              lostTimer := some (s.clock + 300 * items.lostLimit) }
            meter := d.meter.onFrame s.sig items f.rows }))) ∧
      (¬good → d.port.rejections + 1 < 3 →
        exec (.frameEnd i lineCount) s = .next (State.settle (s.setCam i rejected))) ∧
      (¬good → 3 ≤ d.port.rejections + 1 →
        exec (.frameEnd i lineCount) s = .next (State.settle (s.flushCam i (rejected.retrained s.clock)))))

/-- The period estimate, the rate check and the stale limit (R40, R41): with eight intervals held the estimate E is their rounded
mean, and the rate is out of range exactly when 100 |E - N| > w N for the nominal period N and the window w; with fewer the estimate
is the nominal period and the rate is in range; the stale limit is three estimates in rounded milliseconds, 50 when that is less and
500 when it is more. The figures of the manual: for N = 333 and w = 10 the estimates in range are 300 to 366. -/
def Obligations.RateCheckAndStaleLimit : Prop :=
  ∀ (r : Ring) (p : PortItems),
    let E := r.estimate p.period
    let three := (3 * E + 5) / 10
    (r.intervals.length < 8 → E = p.period ∧ r.rateOut p = false) ∧
    (r.intervals.length = 8 →
      E = (r.intervals.sum + 4) / 8 ∧
      (r.rateOut p = true ↔ (p.rateWindow : Int) * p.period < 100 * |(E : Int) - p.period|) ∧
      (p.period = 333 → p.rateWindow = 10 → (r.rateOut p = false ↔ 300 ≤ E ∧ E ≤ 366))) ∧
    (three ≤ 50 → r.staleLimit p.period = 50) ∧ (500 ≤ three → r.staleLimit p.period = 500) ∧
    (50 ≤ three → three ≤ 500 → r.staleLimit p.period = three)

/-! ### Metering (chapter 3) -/

/-- What is measured of a frame: the effective window is the configured one when it lies inside the configured frame and else the largest
legal one from the frame's top left pixel (R45); the mean luma is the rounded mean of the lumas of every fourth pixel of every fourth line
of the window, with the luma's formula (R46); the low-block count is the number of the 8 by 6 blocks of the window whose greatest sample
lies less than the threshold above their least (R52). -/
def Obligations.MeanLumaSamplesTheGrid : Prop :=
  (∀ (m : MeterItems) (W H : Nat),
    let fits := m.winX + m.winW ≤ W ∧ m.winY + m.winH ≤ H
    (fits → effectiveWindow m W H = ⟨m.winX, m.winY, m.winW, m.winH⟩) ∧
    (¬fits → effectiveWindow m W H = ⟨0, 0, 32 * (W / 32), 24 * (H / 24)⟩)) ∧
  ∀ (rows : List (List Pixel)) (win : Window),
    win.y + win.h ≤ rows.length → (∀ row ∈ rows, win.x + win.w ≤ row.length) →
    let sample := fun a b : Nat =>
      let q := (rows.getD (win.y + 4 * b) []).getD (win.x + 4 * a) (rgb 0 0 0)
      (77 * q.r.toNat + 150 * q.g.toNat + 29 * q.b.toNat + 128) / 256
    let count := (win.w / 4) * (win.h / 4)
    (4 ∣ win.w → 4 ∣ win.h → meanLuma (sampleGrid rows win) win =
      ((((List.range (win.h / 4)).map fun b => ((List.range (win.w / 4)).map fun a => sample a b).sum).sum) + count / 2)
        / count) ∧
    (32 ∣ win.w → 24 ∣ win.h → 0 < win.w → 0 < win.h → ∀ (threshold : Nat) (low : List (Nat × Nat)), low.Nodup →
      let inBlock := fun (c r a b : Nat) =>
        a < win.w / 4 ∧ b < win.h / 4 ∧ a / (win.w / 32) = c ∧ b / (win.h / 24) = r
      (∀ c r, (c, r) ∈ low ↔ c < 8 ∧ r < 6 ∧
        ∀ a b a' b', inBlock c r a b → inBlock c r a' b' → sample a b < sample a' b' + threshold) →
      lowBlocks (sampleGrid rows win) win threshold = low.length)

/-- The gain follower (R48): the wanted gain is 128 T / M rounded, a difference within the dead band is ignored, and a step is at
most the slew and ends within the gain limits. -/
def Obligations.GainStepsTowardTheTarget : Prop :=
  ∀ (m : Meter) (u : SignalUnit) (p : PortItems) (rows : List (List Pixel)),
    let win := effectiveWindow m.config p.width p.height
    let mean := max (meanLuma (sampleGrid rows win) win) 1
    let d : Int := ((128 * m.config.target + mean / 2) / mean : Nat) - (m.gain : Int)
    ((m.onFrame u p rows).gain : Int) =
      if |d| ≤ m.config.deadBand then (m.gain : Int)
      else max (m.config.gainMin : Int)
        (min ((m.gain : Int) + max (-(m.config.slew : Int)) (min d m.config.slew)) m.config.gainMax)

/-- The assessment (R53, R54, R55): the interval count advances at each accepted frame and a due frame returns it to 0; a due frame
bright enough and with its gate open gives a verdict by its low-block count, which enters the history at the front; three
verdicts give the verdict held at least twice, or DEGRADED when all differ; fewer give UNASSESSED. -/
def Obligations.DueFramesGiveVerdicts : Prop :=
  (∀ (m : Meter) (u : SignalUnit) (p : PortItems) (rows : List (List Pixel)),
    let win := effectiveWindow m.config p.width p.height
    let grid := sampleGrid rows win
    let low := lowBlocks grid win m.config.clarityThreshold
    let t := m.onFrame u p rows
    let gate := match m.config.gate with
      | .ungated => true
      | .moving => u.signals[u.config.moving].value
      | .signal n => if h : n < 16 then u.signals[n].value else false
    t.config = m.config ∧
    (m.intervalCount + 1 ≠ m.config.interval → t.intervalCount = m.intervalCount + 1 ∧ t.history = m.history) ∧
    (m.intervalCount + 1 = m.config.interval → t.intervalCount = 0 ∧
      (m.config.darkLimit ≤ meanLuma grid win → gate = true →
        t.history = ((if low ≤ m.config.clearMax then Verdict.clear
          else if low < m.config.obscuredMin then .degraded else .obscured) :: m.history).take 3) ∧
      (meanLuma grid win < m.config.darkLimit ∨ gate = false → t.history = m.history))) ∧
  (∀ m : Meter, m.history.length < 3 → m.clarity = .unassessed) ∧
  (∀ (m : Meter) (a b c : Verdict), m.history = [a, b, c] →
    let condition := fun v : Verdict => match v with
      | .clear => Clarity.clear | .degraded => .degraded | .obscured => .obscured
    (a ≠ b → a ≠ c → b ≠ c → m.clarity = .degraded) ∧
    (∀ v, 2 ≤ [a, b, c].count v → m.clarity = condition v))

/-! ### Requests of the cameras (chapters 1 and 3) -/

/-- SET_CAMERA_CONFIG (R4): BAD_VALUE, then WRONG_STATE in TRAINING and LOCKED when a restricted item would change, otherwise every
item but *enabled* takes the carried value; a refusal leaves the blocks as they are. -/
def Obligations.CameraConfigTakenWhole : Prop :=
  ∀ (s : State) (h : Header) (cam : Nat) (items : PortItems), s.powered = true → h.len = 21 →
    let a := s.frameArrives
    (3 < cam ∨ ¬PortItems.acceptable items →
      exec (.setCameraConfig h cam items) s = .next (a.answered 0x10#8 h .badValue .nothing)) ∧
    (∀ i : Fin 4, cam = i.val → PortItems.acceptable items →
      let c := a.cams[i]
      let held := (c.port.link = .training ∨ c.port.link = .locked) ∧ ¬PortItems.restrictedAgree items c.port.config.items
      (held → exec (.setCameraConfig h cam items) s = .next (a.answered 0x10#8 h .wrongState .nothing)) ∧
      (¬held → exec (.setCameraConfig h cam items) s = .next ((a.setCam i { c with port := { c.port with
        config := { c.port.config with items := items } } }).answered 0x10#8 h .ok .nothing)))

/-- CAMERA_ENABLE, CAMERA_DISABLE and CAMERA_RETRAIN (R5, R6, R8, R33, R42, R50): enabling a DISABLED port arms its lost deadline and
enters DOWN, or TRAINING at once with carrier; disabling in every state but DISABLED abandons the work uncounted and flushes with no
deadline left; retraining in TRAINING, LOCKED and FAILED flushes and begins a new sweep and is WRONG_STATE in DOWN and DISABLED. A number
above 3 is refused, and enabling an enabled or disabling a disabled port changes nothing. -/
def Obligations.CameraSwitchedAndRetrained : Prop :=
  (∀ (s : State) (h : Header) (cam : Nat), s.powered = true → h.len = 1 →
     let a := s.frameArrives
     (3 < cam → exec (.cameraEnable h cam) s = .next (a.answered 0x11#8 h .badValue .nothing)) ∧
     (∀ i : Fin 4, cam = i.val →
       let c := a.cams[i]
       let p := { c.port with link := .down, config := { c.port.config with enabled := true } }
       (c.port.link = .disabled →
         exec (.cameraEnable h cam) s = .next ((a.setCam i { c with
           port := if c.port.carrier then p.sweeping a.clock else p
           ring := { c.ring with lostTimer := some (a.clock + 300 * c.port.config.items.lostLimit) } }).answered
             0x11#8 h .ok .nothing)) ∧
       (c.port.link ≠ .disabled → exec (.cameraEnable h cam) s = .next (a.answered 0x11#8 h .ok .nothing)))) ∧
  (∀ (s : State) (h : Header) (cam : Nat), s.powered = true → h.len = 1 →
     let a := s.frameArrives
     (3 < cam → exec (.cameraDisable h cam) s = .next (a.answered 0x12#8 h .badValue .nothing)) ∧
     (∀ i : Fin 4, cam = i.val →
       let c := a.cams[i]
       (c.port.link ≠ .disabled →
         exec (.cameraDisable h cam) s = .next ((a.flushCam i (Cam.emptied { c with port := { c.port.atRest with
           link := .disabled, config := { c.port.config with enabled := false } } } a.clock false)).answered
             0x12#8 h .ok .nothing)) ∧
       (c.port.link = .disabled → exec (.cameraDisable h cam) s = .next (a.answered 0x12#8 h .ok .nothing)))) ∧
  (∀ (s : State) (h : Header) (cam : Nat), s.powered = true → h.len = 1 →
     let a := s.frameArrives
     (3 < cam → exec (.cameraRetrain h cam) s = .next (a.answered 0x13#8 h .badValue .nothing)) ∧
     (∀ i : Fin 4, cam = i.val →
       let c := a.cams[i]
       (c.port.link = .training ∨ c.port.link = .locked ∨ c.port.link = .failed →
         exec (.cameraRetrain h cam) s = .next ((a.flushCam i (c.retrained a.clock)).answered 0x13#8 h .ok .nothing)) ∧
       (c.port.link = .down ∨ c.port.link = .disabled →
         exec (.cameraRetrain h cam) s = .next (a.answered 0x13#8 h .wrongState .nothing))))

/-- READ_CAMERA_REPORT (R19): the reply carries the port's, the ring's and the metering unit's state, and reading changes nothing.
A number above 3 is refused. -/
def Obligations.CameraReportReadsOnly : Prop :=
  ∀ (s : State) (h : Header) (cam : Nat), s.powered = true → h.len = 1 →
    let a := s.frameArrives
    (3 < cam → exec (.readCameraReport h cam) s = .next (a.answered 0x14#8 h .badValue .nothing)) ∧
    (∀ i : Fin 4, cam = i.val →
      let c := a.cams[i]
      ∃ report : CameraReport,
        exec (.readCameraReport h cam) s = .next (a.answered 0x14#8 h .ok (.camera report)) ∧
        report.link = c.port.link ∧ report.carrier = c.port.carrier ∧ report.record = c.port.record ∧
        report.frameOpen = c.port.frameOpen ∧ report.expectedLine = c.port.expectedLine ∧
        report.rejections = c.port.rejections ∧ report.counters = c.port.counters ∧
        report.picture = c.ring.picture ∧ report.periodEstimate = c.ring.estimate c.port.config.items.period ∧
        report.gain = c.meter.gain ∧ report.clarity = c.meter.clarity ∧
        (slotsSafe c.ring.slots.toList →
          (∀ (j : Fin 3) (f : Frame), c.ring.slots[j] = .ready f → report.newest = some f.record) ∧
          (∀ (j : Fin 3) (f : Frame), (∀ (k : Fin 3) (g : Frame), c.ring.slots[k] ≠ .ready g) →
            c.ring.slots[j] = .showing f → report.newest = some f.record)) ∧
        ((∀ (k : Fin 3) (g : Frame), c.ring.slots[k] ≠ .ready g ∧ c.ring.slots[k] ≠ .showing g) →
          report.newest = none))

/-- SET_METERING (R49, R57, R58): the target is clamped into 16..235, the tests of R57 refuse with BAD_VALUE, and an accepted request
takes every item, clamps the gain, empties the history when a window or clarity item changes, and restarts the interval count
when one of those or the interval changes. -/
def Obligations.MeteringTakenWhole : Prop :=
  ∀ (s : State) (h : Header) (cam : Nat) (items : MeterItems), s.powered = true → h.len = 20 →
    let a := s.frameArrives
    let refusal : Host.Outcome State Fault Refusal := .next (a.answered 0x18#8 h .badValue .nothing)
    (3 < cam → exec (.setMetering h cam items) s = refusal) ∧
    (∀ i : Fin 4, cam = i.val →
      let c := a.cams[i]
      let frame := c.port.config.items
      let m := { items with target := max 16 (min items.target 235) }
      (¬MeterItems.acceptable items frame.width frame.height → exec (.setMetering h cam items) s = refusal) ∧
      (MeterItems.acceptable items frame.width frame.height →
        ∃ t : Meter,
          exec (.setMetering h cam items) s = .next ((a.setCam i { c with meter := t }).answered 0x18#8 h .ok .nothing) ∧
          t.config = m ∧ t.gain = max m.gainMin (min c.meter.gain m.gainMax) ∧
          (MeterItems.windowsAgree m c.meter.config → MeterItems.clarityAgrees m c.meter.config →
            t.history = c.meter.history ∧
            t.intervalCount = if m.interval = c.meter.config.interval then c.meter.intervalCount else 0) ∧
          (¬(MeterItems.windowsAgree m c.meter.config ∧ MeterItems.clarityAgrees m c.meter.config) →
            t.history = [] ∧ t.intervalCount = 0)))

/-! ### Mesh store (chapter 4) -/

/-- MESH_BEGIN (R61, R64, R70): BAD_VALUE, BUSY, IN_USE and NO_SPACE in this order; otherwise the slot becomes LOADING with no rows,
its old charge released and the new one taken, the upload context is created with its 1000 ms deadline, and the reply carries the
free nodes. A refusal leaves the blocks as they are. -/
def Obligations.MeshBeginReservesNodes : Prop :=
  ∀ (s : State) (h : Header) (slot cols rows : Nat), s.powered = true → h.len = 3 →
    let a := s.frameArrives
    let run := exec (.meshBegin h slot cols rows) s
    let refused := fun code : ResultCode =>
      (Host.Outcome.next (a.answered 0x20#8 h code .nothing) : Host.Outcome State Fault Refusal)
    let legal := slot ≤ 7 ∧ 3 ≤ cols ∧ cols ≤ 41 ∧ 3 ≤ rows ∧ rows ≤ 26
    (¬legal → run = refused .badValue) ∧
    (∀ i : Fin 8, slot = i.val → legal →
      let m : MeshStore := ⟨a.mesh.slots.set i (.loading cols rows []), some ⟨i, 0, a.clock + 300 * 1000⟩⟩
      (a.mesh.upload ≠ none → run = refused .busy) ∧
      (a.mesh.upload = none → a.namesMesh i → run = refused .inUse) ∧
      (a.mesh.upload = none → ¬a.namesMesh i → 6144 < m.charge → run = refused .noSpace) ∧
      (a.mesh.upload = none → ¬a.namesMesh i → m.charge ≤ 6144 →
        run = .next (State.answered { a with mesh := m } 0x20#8 h .ok (.freeNodes (6144 - m.charge)))))

/-- MESH_ROWS and MESH_END (R65, R66, R67): the payload of a MESH_ROWS holds the slot, the row, and node i at 2 + 4i as two signed fields,
high byte first (R174); BAD_VALUE for the slot number; WRONG_STATE unless the upload in progress loads this slot; a wrong row, a wrong
node count or an early end aborts the upload with SEQUENCE and an error entry; otherwise the row is stored and the deadline restarted,
or the slot becomes READY. -/
def Obligations.MeshUploadFollowsItsOrder : Prop :=
  (∀ (s : State) (h : Header) (slot row : Byte) (bytes : List Byte), s.powered = true →
    h.len = 2 + bytes.length → 4 ∣ bytes.length → h.len ≤ 248 →
    let a := s.frameArrives
    let signed := fun (hi lo : Byte) => if hi.toNat < 128 then (hi.toNat : Int) * 256 + lo.toNat
      else (hi.toNat : Int) * 256 + lo.toNat - 65536
    ∃ nodes : List Node, 4 * nodes.length = bytes.length ∧
      (∀ i < nodes.length, nodes.getD i ⟨0, 0⟩ =
        ⟨signed (bytes.getD (4 * i) 0) (bytes.getD (4 * i + 1) 0),
          signed (bytes.getD (4 * i + 2) 0) (bytes.getD (4 * i + 3) 0)⟩) ∧
      let run := exec (.meshRows h slot row bytes) s
      (7 < slot.toNat → run = .next (a.answered 0x21#8 h .badValue .nothing)) ∧
      (∀ i : Fin 8, slot.toNat = i.val → (∀ u, a.mesh.upload = some u → u.slot ≠ i) →
        run = .next (a.answered 0x21#8 h .wrongState .nothing)) ∧
      (∀ (i : Fin 8) (u : Upload) (cols rows : Nat) (held : List (List Node)),
        slot.toNat = i.val → a.mesh.upload = some u → u.slot = i → a.mesh.slots[i] = .loading cols rows held →
        (row.toNat = u.nextRow → u.nextRow < rows → nodes.length = cols →
          run = .next (State.answered { a with mesh :=
            ⟨a.mesh.slots.set i (.loading cols rows (held ++ [nodes])),
              some ⟨i, u.nextRow + 1, a.clock + 300 * 1000⟩⟩ } 0x21#8 h .ok (.nextRow (u.nextRow + 1)))) ∧
        (row.toNat ≠ u.nextRow ∨ rows ≤ u.nextRow ∨ nodes.length ≠ cols →
          run = .next (State.answered { a with
            mesh := ⟨a.mesh.slots.set i .free, none⟩
            sts := { a.sts with errors := pushError a.sts.errors ⟨.meshSequence, i.val, a.timeBase % 65536⟩ } }
            0x21#8 h .sequence .nothing)))) ∧
  (∀ (s : State) (h : Header) (slot : Nat), s.powered = true → h.len = 1 →
    let a := s.frameArrives
    let run := exec (.meshEnd h slot) s
    (7 < slot → run = .next (a.answered 0x22#8 h .badValue .nothing)) ∧
    (∀ i : Fin 8, slot = i.val → (∀ u, a.mesh.upload = some u → u.slot ≠ i) →
      run = .next (a.answered 0x22#8 h .wrongState .nothing)) ∧
    (∀ (i : Fin 8) (u : Upload) (cols rows : Nat) (held : List (List Node)),
      slot = i.val → a.mesh.upload = some u → u.slot = i → a.mesh.slots[i] = .loading cols rows held →
      (rows ≤ u.nextRow → run = .next (State.answered { a with mesh :=
        ⟨a.mesh.slots.set i (.ready ⟨cols, rows, held⟩), none⟩ } 0x22#8 h .ok (.freeNodes (6144 - a.mesh.charge)))) ∧
      (u.nextRow < rows → run = .next (State.answered { a with
        mesh := ⟨a.mesh.slots.set i .free, none⟩
        sts := { a.sts with errors := pushError a.sts.errors ⟨.meshSequence, i.val, a.timeBase % 65536⟩ } }
        0x22#8 h .sequence .nothing))))

/-- MESH_FREE and the inactivity deadline (R68, R69, R70): a slot not in use becomes FREE, with the upload ended if it was LOADING,
and the free nodes are reported; at the deadline the loading slot becomes FREE with MESH_ABANDONED and its error entry. Without an
upload no deadline expires. That the expiry brings the clock to the deadline is the model's choice (assumption 11). -/
def Obligations.MeshFreedOrAbandoned : Prop :=
  ∀ (s : State) (h : Header) (slot : Nat), s.powered = true →
    let a := s.frameArrives
    (h.len = 1 →
      let run := exec (.meshFree h slot) s
      (7 < slot → run = .next (a.answered 0x23#8 h .badValue .nothing)) ∧
      (∀ i : Fin 8, slot = i.val →
        let m : MeshStore := ⟨a.mesh.slots.set i .free, match a.mesh.slots[i] with
          | .loading _ _ _ => none
          | _ => a.mesh.upload⟩
        (a.namesMesh i → run = .next (a.answered 0x23#8 h .inUse .nothing)) ∧
        (¬a.namesMesh i →
          run = .next (State.answered { a with mesh := m } 0x23#8 h .ok (.freeNodes (6144 - m.charge)))))) ∧
    (∀ u, s.mesh.upload = some u →
      let now := max s.clock u.deadline
      exec .meshInactivityExpiry s = .next (State.settle { s with
        clock := now
        mesh := ⟨s.mesh.slots.set u.slot .free, none⟩
        sts := { s.sts with
          events := s.sts.events ||| 0x08000000#32
          errors := pushError s.sts.errors ⟨.meshAbandoned, u.slot.val, now / 300 % 4294967296 % 65536⟩ } })) ∧
    (s.mesh.upload = none → exec .meshInactivityExpiry s = .next s)

/-! ### View table (chapter 5) -/

/-- DEFINE_VIEW (R74, R76, R77): the view number, the tile count, every tile's fields and place and source window, and the absence
of overlap decide between BAD_VALUE and OK; an accepted request replaces the tiles and keeps the overlay list. -/
def Obligations.DefineViewTakenWhole : Prop :=
  ∀ (s : State) (h : Header) (view count : Nat) (tiles : List TileFields), s.powered = true →
    count = tiles.length → h.len = 2 + 22 * tiles.length → h.len ≤ 248 →
    let a := s.frameArrives
    let run := exec (.defineView h view count tiles) s
    let legal := view ≤ 15 ∧ 1 ≤ tiles.length ∧ tiles.length ≤ 4 ∧ (∀ f ∈ tiles, TileFields.acceptable f a.cams) ∧
      tiles.Pairwise fun f g => ¬TileFields.overlap f g
    (¬legal → run = .next (a.answered 0x28#8 h .badValue .nothing)) ∧
    (∀ n : Fin 16, view = n.val → legal →
      let overlays := match a.views[n] with
        | some v => v.overlays
        | none => []
      ∃ ts : List Tile, List.Forall₂ TileFields.becomes tiles ts ∧
        run = .next (State.answered { a with views := a.views.set n (some ⟨ts, overlays⟩) } 0x28#8 h .ok .nothing))

/-- OVERLAY_CLEAR and OVERLAY_APPEND (R82, R83, R84, R86, R87): a number above 15 is BAD_VALUE and an undefined view NOT_FOUND;
clearing empties the list; appending takes 1 to 12 primitives in order at the end of the list, all or none, within 24 primitives and
cost 48, and reports the new size. -/
def Obligations.OverlayListGrowsAndClears : Prop :=
  ∀ (s : State) (h : Header) (view : Nat), s.powered = true →
    let a := s.frameArrives
    let cost := fun l : List Prim => (l.map fun p => match p.geometry with
      | .line _ _ _ _ _ => 2
      | .rect _ _ _ _ _ => 2
      | .box _ _ _ _ => 1
      | .glyph _ _ _ _ => 3).sum
    let answers := fun (type : Byte) (t : State) (code : ResultCode) (data : ReplyData) =>
      (Host.Outcome.next (t.answered type h code data) : Host.Outcome State Fault Refusal)
    (h.len = 1 →
      let run := exec (.overlayClear h view) s
      (15 < view → run = answers 0x29#8 a .badValue .nothing) ∧
      (∀ n : Fin 16, view = n.val → a.views[n] = none → run = answers 0x29#8 a .notFound .nothing) ∧
      (∀ (n : Fin 16) (v : View), view = n.val → a.views[n] = some v →
        run = answers 0x29#8 { a with views := a.views.set n (some { v with overlays := [] }) } .ok .nothing)) ∧
    (∀ (count : Nat) (prims : List PrimFields), count = prims.length → h.len = 2 + 18 * prims.length → h.len ≤ 248 →
      let run := exec (.overlayAppend h view count prims) s
      let legal := 1 ≤ prims.length ∧ prims.length ≤ 12 ∧ ∀ f ∈ prims, PrimFields.acceptable f
      (15 < view → run = answers 0x2A#8 a .badValue .nothing) ∧
      (∀ n : Fin 16, view = n.val → a.views[n] = none → run = answers 0x2A#8 a .notFound .nothing) ∧
      (∀ (n : Fin 16) (v : View), view = n.val → a.views[n] = some v →
        (¬legal → run = answers 0x2A#8 a .badValue .nothing) ∧
        (legal → ∃ ps : List Prim, List.Forall₂ PrimFields.becomes prims ps ∧
          let list := v.overlays ++ ps
          (24 < list.length ∨ 48 < cost list → run = answers 0x2A#8 a .noSpace .nothing) ∧
          (list.length ≤ 24 → cost list ≤ 48 →
            run = answers 0x2A#8 { a with views := a.views.set n (some { v with overlays := list }) } .ok
              (.overlaySize list.length (cost list))))))

/-- DELETE_VIEW and READ_VIEW (R80, R81): a view is deleted only when it is defined and neither default, override, selected, latched
nor named by an entry; reading carries the tiles or up to eight primitives from the carried index and changes nothing. -/
def Obligations.ViewsDeletedAndRead : Prop :=
  ∀ (s : State) (h : Header) (view : Nat), s.powered = true →
    let a := s.frameArrives
    let answers := fun (type : Byte) (t : State) (code : ResultCode) (data : ReplyData) =>
      (Host.Outcome.next (t.answered type h code data) : Host.Outcome State Fault Refusal)
    (h.len = 1 →
      let run := exec (.deleteView h view) s
      (15 < view → run = answers 0x2B#8 a .badValue .nothing) ∧
      (∀ n : Fin 16, view = n.val →
        let referenced := a.sel.defaultView = n ∨ (∃ o, a.sel.override = some o ∧ o.view = n) ∨ a.sel.selected = n ∨
          a.comp.latchedView = some n ∨ ∃ (i : Fin 16) (e : Entry), a.sel.entries[i] = some e ∧ e.config.view = n
        (a.views[n] = none → run = answers 0x2B#8 a .notFound .nothing) ∧
        (a.views[n] ≠ none → referenced → run = answers 0x2B#8 a .inUse .nothing) ∧
        (a.views[n] ≠ none → ¬referenced →
          run = answers 0x2B#8 { a with views := a.views.set n none } .ok .nothing))) ∧
    (h.len = 3 → ∀ part : ViewPart,
      let run := exec (.readView h view part) s
      let bad := 15 < view ∨ part = .unknown ∨ ∃ k, part = .overlays k ∧ 24 ≤ k
      (bad → run = answers 0x2C#8 a .badValue .nothing) ∧
      (∀ n : Fin 16, view = n.val → ¬bad →
        (a.views[n] = none → run = answers 0x2C#8 a .ok .viewUndefined) ∧
        (∀ v, a.views[n] = some v →
          (part = .tiles →
            run = answers 0x2C#8 a .ok (.viewTiles v.tiles v.overlays.length (totalCost v.overlays))) ∧
          (∀ k, part = .overlays k → ∃ l : List Prim,
            run = answers 0x2C#8 a .ok (.viewOverlays v.overlays.length (totalCost v.overlays) l) ∧
            l.length = min 8 (v.overlays.length - k) ∧ ∀ j < l.length, l[j]? = v.overlays[k + j]?))))

/-! ### View selector (chapter 9) -/

/-- A re-evaluation (R142, R143, R144, R146, R147): every non-empty entry is judged on the signal values, with the choice in force
before and the time since its activation; the active choice becomes the highest-ranked claiming item; the selected view is its view,
and the activation time is renewed when the choice changes. Nothing outside the selector changes. -/
def Obligations.ReevaluationJudgesAndChooses : Prop :=
  ∀ s : State,
    let t := s.reevaluate
    let elapsed := (s.timeBase + 4294967296 - s.sel.activation) % 4294967296
    let claims := fun i : Fin 16 => ∃ e, t.sel.entries[i] = some e ∧ e.state ≠ .idle
    let rank := match s.sel.override with
      | some o => o.rank
      | none => 16
    t = { s with sel := t.sel } ∧ t.sel.override = s.sel.override ∧ t.sel.defaultView = s.sel.defaultView ∧
    (∀ i : Fin 16, s.sel.entries[i] = none → t.sel.entries[i] = none) ∧
    (∀ (i : Fin 16) (e : Entry), s.sel.entries[i] = some e →
      let holds := ∀ x ∈ e.config.terms, s.sig.signals[x.signal].value = x.wanted
      let reload := ∃ n : Fin 16, e.config.reload.getLsbD n = true ∧ s.sig.signals[n].value = true
      let R := if s.sel.active = .entry i then max e.config.release (e.config.dwell - elapsed) else e.config.release
      ∃ x : EntryState, t.sel.entries[i] = some { e with state := x } ∧
        (holds → x = .held) ∧
        (¬holds → e.state = .idle → x = .idle) ∧
        (¬holds → e.state = .held → R = 0 → x = .idle) ∧
        (¬holds → e.state = .held → R ≠ 0 → reload → x = .releasing R none) ∧
        (¬holds → e.state = .held → R ≠ 0 → ¬reload → x = .releasing R (some (s.clock + 300 * R))) ∧
        (∀ r timer, ¬holds → e.state = .releasing r timer → reload → x = .releasing r none) ∧
        (∀ r d, ¬holds → e.state = .releasing r (some d) → ¬reload → x = .releasing r (some d)) ∧
        (∀ r, ¬holds → e.state = .releasing r none → ¬reload → x = .releasing r (some (s.clock + 300 * r)))) ∧
    (∀ i : Fin 16, claims i → i.val < rank → (∀ j : Fin 16, j < i → ¬claims j) → t.sel.active = .entry i) ∧
    ((∀ i : Fin 16, i.val < rank → ¬claims i) →
      t.sel.active = if s.sel.override.isSome then .override else .default) ∧
    (∀ (i : Fin 16) (e : Entry), t.sel.active = .entry i → t.sel.entries[i] = some e → t.sel.selected = e.config.view) ∧
    (∀ o, t.sel.active = .override → s.sel.override = some o → t.sel.selected = o.view) ∧
    (t.sel.active = .default → t.sel.selected = s.sel.defaultView) ∧
    t.sel.activation = if t.sel.active = s.sel.active then s.sel.activation else s.timeBase

/-- SET_SELECTION_ENTRY, CLEAR_SELECTION_ENTRY and SET_DEFAULT_VIEW (R141, R149, R150, R151): the tests of each in their order, and an
accepted request sets the entry IDLE with the carried fields (release at most 60000), empties it, or replaces the default view, and
the selector re-evaluates. -/
def Obligations.SelectionRequestsReevaluate : Prop :=
  ∀ (s : State) (h : Header) (number : Nat), s.powered = true →
    let a := s.frameArrives
    let answers := fun (type : Byte) (t : State) (code : ResultCode) =>
      (Host.Outcome.next (t.answered type h code .nothing) : Host.Outcome State Fault Refusal)
    (∀ f : EntryFields, f.termCount = f.terms.length → h.len = 9 + 2 * f.terms.length → h.len ≤ 248 →
      let run := exec (.setSelectionEntry h number f) s
      let legal := number ≤ 15 ∧ 1 ≤ f.terms.length ∧ f.terms.length ≤ 4 ∧
        (∀ x ∈ f.terms, x.signal ≤ 15 ∧ x.wanted.isSome = true) ∧ f.view ≤ 15 ∧ f.dwell ≤ 10000
      (¬legal → run = answers 0x30#8 a .badValue) ∧
      (∀ i n : Fin 16, number = i.val → f.view = n.val → legal →
        (a.views[n] = none → run = answers 0x30#8 a .notFound) ∧
        (a.views[n] ≠ none → ∃ e : EntryConfig,
          List.Forall₂ (fun (x : TermFields) (y : Term) => x.signal = y.signal.val ∧ x.wanted = some y.wanted)
            f.terms e.terms ∧
          e.view = n ∧ e.dwell = f.dwell ∧ e.release = min f.release 60000 ∧ e.reload = f.reload ∧
          run = answers 0x30#8 (State.reevaluate { a with sel := { a.sel with
            entries := a.sel.entries.set i (some ⟨e, .idle⟩) } }) .ok))) ∧
    (h.len = 1 →
      (15 < number → exec (.clearSelectionEntry h number) s = answers 0x31#8 a .badValue ∧
        exec (.setDefaultView h number) s = answers 0x32#8 a .badValue) ∧
      (∀ n : Fin 16, number = n.val →
        exec (.clearSelectionEntry h number) s = answers 0x31#8 (State.reevaluate { a with sel := { a.sel with
          entries := a.sel.entries.set n none } }) .ok ∧
        (a.views[n] = none → exec (.setDefaultView h number) s = answers 0x32#8 a .notFound) ∧
        (a.views[n] ≠ none → exec (.setDefaultView h number) s =
          answers 0x32#8 (State.reevaluate { a with sel := { a.sel with defaultView := n } }) .ok)))

/-- The override and the selector's timers (R145, R152, R153): an accepted OVERRIDE_VIEW installs or replaces the override with its
duration adjusted (0 until cancelled, otherwise 100 to 600000) and its timer restarted; cancelling removes it without OVERRIDE_ENDED;
its expiry removes it and gives OVERRIDE_ENDED; a release timer's expiry sets its entry IDLE; each re-evaluates. That an expiry brings
the clock to its timer's instant, and that a stopped timer changes nothing, is the model's choice (assumption 11). -/
def Obligations.OverridesAndReleasesEnd : Prop :=
  ∀ (s : State) (h : Header), s.powered = true →
    let a := s.frameArrives
    let answers := fun (type : Byte) (t : State) (code : ResultCode) =>
      (Host.Outcome.next (t.answered type h code .nothing) : Host.Outcome State Fault Refusal)
    (h.len = 6 → ∀ view rank duration : Nat,
      let run := exec (.overrideView h view rank duration) s
      let d := if duration = 0 then 0 else max 100 (min duration 600000)
      let timer := if duration = 0 then none else some (a.clock + 300 * d)
      (15 < view ∨ 16 < rank → run = answers 0x33#8 a .badValue) ∧
      (∀ n : Fin 16, view = n.val → rank ≤ 16 →
        (a.views[n] = none → run = answers 0x33#8 a .notFound) ∧
        (a.views[n] ≠ none → run = answers 0x33#8 (State.reevaluate { a with sel := { a.sel with
          override := some ⟨n, rank, d, timer⟩ } }) .ok))) ∧
    (h.len = 0 →
      (a.sel.override = none → exec (.cancelOverride h) s = answers 0x34#8 a .notFound) ∧
      (a.sel.override ≠ none → exec (.cancelOverride h) s =
        answers 0x34#8 (State.reevaluate { a with sel := { a.sel with override := none } }) .ok)) ∧
    (∀ o d, s.sel.override = some o → o.timer = some d →
      exec .overrideExpiry s = .next (State.settle (State.reevaluate { s with
        clock := max s.clock d, sel := { s.sel with override := none }
        sts := { s.sts with events := s.sts.events ||| 0x00800000#32 } }))) ∧
    ((∀ o, s.sel.override = some o → o.timer = none) → exec .overrideExpiry s = .next s) ∧
    (∀ (i : Fin 16) (e : Entry) (r d : Nat), s.sel.entries[i] = some e → e.state = .releasing r (some d) →
      exec (.releaseTimerExpiry i) s = .next (State.settle (State.reevaluate { s with
        clock := max s.clock d
        sel := { s.sel with entries := s.sel.entries.set i (some { e with state := .idle }) } }))) ∧
    (∀ i : Fin 16, (∀ e r d, s.sel.entries[i] = some e → e.state ≠ .releasing r (some d)) →
      exec (.releaseTimerExpiry i) s = .next s)

/-- READ_SELECTION, READ_SIGNALS and READ_CONDITIONS (R137, R154, R158): what each reply carries, and that reading changes nothing. That
a remaining time is rounded up to whole milliseconds is the model's choice (assumption 34). -/
def Obligations.ReportsReadOnly : Prop :=
  ∀ (s : State) (h : Header), s.powered = true →
    let a := s.frameArrives
    let answers := fun (type : Byte) (code : ResultCode) (data : ReplyData) =>
      (Host.Outcome.next (a.answered type h code data) : Host.Outcome State Fault Refusal)
    (h.len = 2 →
      exec (.readSelection h .unknown) s = answers 0x35#8 .badValue .nothing ∧
      (∀ k, 16 ≤ k → exec (.readSelection h (.entries k)) s = answers 0x35#8 .badValue .nothing) ∧
      (∀ k, k < 16 → ∃ l : List (Option EntryReport),
        exec (.readSelection h (.entries k)) s = answers 0x35#8 .ok (.entries l) ∧ l.length = min 4 (16 - k) ∧
        ∀ (j : Nat) (hj : k + j < 16), j < 4 →
          (a.sel.entries[k + j] = none → l[j]? = some none) ∧
          (∀ e, a.sel.entries[k + j] = some e → ∃ left, l[j]? = some (some ⟨e.config, e.state, left⟩) ∧
            (∀ r d, e.state = .releasing r (some d) → left = some ((d - a.clock + 299) / 300)) ∧
            (∀ r, e.state = .releasing r none → left = some r))) ∧
      ∃ r : SelectionSummary, exec (.readSelection h .summary) s = answers 0x35#8 .ok (.selection r) ∧
        r.defaultView = a.sel.defaultView ∧ r.active = a.sel.active ∧ r.activation = a.sel.activation ∧
        r.selected = a.sel.selected ∧ r.latchedView = a.comp.latchedView ∧ r.tileFault = a.comp.tileFault ∧
        r.framesComposed = a.comp.framesComposed ∧ r.repeats = a.comp.repeats ∧
        r.output = ⟨a.disp.state, a.disp.current, a.disp.staged, a.disp.holdPending⟩ ∧ r.outputEnable = a.disp.enable ∧
        r.framesShown = a.disp.framesShown ∧ r.framesRepeated = a.disp.framesRepeated ∧
        (a.sel.override = none → r.override = none) ∧
        (∀ o, a.sel.override = some o → o.timer = none → r.override = some ⟨o.view, o.rank, o.duration, none⟩) ∧
        (∀ o d, a.sel.override = some o → o.timer = some d →
          r.override = some ⟨o.view, o.rank, o.duration, some ((d - a.clock + 299) / 300)⟩)) ∧
    (h.len = 0 →
      (∃ r : SignalsReport, exec (.readSignals h) s = answers 0x3A#8 .ok (.signals r) ∧
        (∀ i : Fin 16, r.signals[i] =
          ⟨a.sig.config.signals[i], a.sig.signals[i].value, a.sig.signals[i].freshness⟩) ∧
        (∀ n : Fin 6, r.wires[n] = ⟨a.sig.config.wires[n], a.sig.wires[n].raw, a.sig.wires[n].accepted,
          a.sig.wires[n].accepted == (a.sig.config.wires[n].polarity == .activeHigh)⟩) ∧
        r.speed = a.sig.speed ∧ r.speedFresh = a.sig.speedFresh ∧ r.speedTimeout = a.sig.config.speedTimeout ∧
        r.moving = a.sig.config.moving ∧ r.movingValue = a.sig.signals[a.sig.config.moving].value ∧
        r.wakeSet = a.sig.config.wakeSet ∧
        (r.anyStale = true ↔ ∃ i : Fin 16, a.sig.signals[i].freshness = .stale)) ∧
      ∃ r : ConditionsReport, exec (.readConditions h) s = answers 0x48#8 .ok (.conditions r) ∧
        r.conditions = a.sts.conditions ∧ r.events = a.sts.events ∧ r.enable = a.sts.enable ∧
        (∀ n : Fin 4, r.slots[n] = match a.prf.slots[n] with
          | .empty => .empty
          | .valid _ _ => .valid
          | .invalid => .invalid) ∧
        (a.prf.save = none → r.saving = none) ∧ (∀ v, a.prf.save = some v → r.saving = some v.slot))

/-! ### Composer and display output (chapters 6 and 7) -/

/-- OUTPUT_FRAME_START outside plain RUNNING (R102, R116, R119, R121, R124) and the display output's timers (R118, R122): no frame in OFF, a
black one in STARTING, a repeat in HOLD, the stop target in STOPPING, HOLD in RUNNING with a hold pending; a composed frame that ends counts
as shown and becomes the held picture, the context is discarded, and entering OFF keeps the picture on the monitor. The settle timer enters
RUNNING, the hold timer leaves HOLD, through STARTING when a different timing is staged. That a command brings the clock to its instant is
the model's choice (assumption 11). -/
def Obligations.OutputFramesAndTimersByState : Prop :=
  (∀ s : State, s.powered = true →
     let t := { s with clock := max s.clock (s.disp.nextStart.getD s.clock) }
     let next := s.disp.nextStart.map fun d => d + 5000
     let repeated := min (s.disp.framesRepeated + 1) 4294967295
     let ended : Display := match s.comp.context with
       | some ctx => { s.disp with
           framesShown := min (s.disp.framesShown + 1) 4294967295, heldPicture := some ctx.frame }
       | none => s.disp
     let discarded : Composer := { s.comp with context := none, tileFault := false }
     let run := exec .outputFrameStart s
     (s.disp.state = .off → run = .next s) ∧
     (s.disp.state = .starting →
       run = .next (State.settle { t with disp := { s.disp with sending := .black, nextStart := next } })) ∧
     (s.disp.state = .hold → run = .next (State.settle { t with disp := { s.disp with
       sending := .repeatFrame, nextStart := next, framesRepeated := repeated } })) ∧
     (s.disp.state = .stopping → s.disp.stopToStarting = false →
       run = .next (State.settle { t with comp := discarded, disp := { ended with
         state := .off, holdPending := false, settleTimer := none, holdTimer := none, nextStart := none
         sending := .nothing, shown := s.screen } })) ∧
     (s.disp.state = .stopping → s.disp.stopToStarting = true →
       run = .next (State.settle { t with comp := discarded, disp := { ended with
         state := .starting, current := s.disp.staged.getD s.disp.current, staged := none, holdPending := false
         settleTimer := some (t.clock + 300 * 200), holdTimer := none, nextStart := some (t.clock + 5000)
         sending := .black, heldPicture := none } })) ∧
     (s.disp.state = .running → s.disp.holdPending = true →
       run = .next (State.settle { t with comp := discarded, disp := { ended with
         state := .hold, holdPending := false, holdTimer := some (t.clock + 300 * 2000)
         framesRepeated := repeated, sending := .repeatFrame, nextStart := next } }))) ∧
  (∀ s : State, s.powered = true →
     (∀ d, s.disp.state = .starting → s.disp.settleTimer = some d →
       exec .settleTimerExpiry s = .next (State.settle { s with
         clock := max s.clock d, disp := { s.disp with state := .running, settleTimer := none } })) ∧
     (s.disp.state ≠ .starting ∨ s.disp.settleTimer = none → exec .settleTimerExpiry s = .next s) ∧
     (∀ d, s.disp.state = .hold → s.disp.holdTimer = some d →
       (∀ x, s.disp.staged = some x → x ≠ s.disp.current →
         exec .holdTimerExpiry s = .next (State.settle { s with
           clock := max s.clock d
           disp := { s.disp with
             state := .starting, current := x, staged := none, holdPending := false
             settleTimer := some (max s.clock d + 300 * 200), holdTimer := none
             nextStart := some (max s.clock d + 5000), sending := .black, heldPicture := none } })) ∧
       ((∀ x, s.disp.staged = some x → x = s.disp.current) →
         exec .holdTimerExpiry s = .next (State.settle { s with
           clock := max s.clock d
           disp := { s.disp with state := .running, holdTimer := none, staged := none } }))) ∧
     (s.disp.state ≠ .hold ∨ s.disp.holdTimer = none → exec .holdTimerExpiry s = .next s))

/-- OUTPUT_FRAME_START handed to the composer (R29, R30, R95 to R99): each ring whose camera the selected view shows claims its READY
frame, the others release; the context is latched from the view; a mesh tile whose slot is not READY with the fitting dimensions is a
tile fault; the counters advance, and VIEW_CHANGED is given when the view number differs from a present previous one. That the command
brings the clock to the instant of the frame start is the model's choice (assumption 11). -/
def Obligations.OutputFrameStartComposes : Prop :=
  ∀ (s : State) (v : View), s.powered = true → s.disp.state = .running → s.disp.holdPending = false →
    s.views[s.sel.selected] = some v → s.ringsSafe →
    let now := max s.clock (s.disp.nextStart.getD s.clock)
    let time := now / 300 % 4294967296
    let shows := fun i : Fin 4 => ∃ x ∈ v.tiles, x.camera = i
    let hasReady := fun i : Fin 4 => ∃ (k : Fin 3) (f : Frame), s.cams[i].ring.slots[k] = .ready f
    let changed := ∃ m, s.comp.previousView = some m ∧ m ≠ s.sel.selected
    ∃ (t : State) (ctx : Context),
      exec .outputFrameStart s = .next t.settle ∧
      t = { s with
        clock := now, cams := t.cams, comp := t.comp
        disp := { s.disp with
          sending := .composed, nextStart := s.disp.nextStart.map fun d => d + 5000
          framesShown := t.disp.framesShown, heldPicture := t.disp.heldPicture }
        sts := { s.sts with events := t.sts.events } } ∧
      (∀ old, s.comp.context = some old →
        t.disp.framesShown = min (s.disp.framesShown + 1) 4294967295 ∧ t.disp.heldPicture = some old.frame) ∧
      (s.comp.context = none →
        t.disp.framesShown = s.disp.framesShown ∧ t.disp.heldPicture = s.disp.heldPicture) ∧
      (changed → t.sts.events = s.sts.events ||| 0x00400000#32) ∧ (¬changed → t.sts.events = s.sts.events) ∧
      (∀ i : Fin 4,
        t.cams[i] = { s.cams[i] with ring := { s.cams[i].ring with slots := t.cams[i].ring.slots } } ∧
        (shows i → ¬hasReady i → t.cams[i].ring.slots = s.cams[i].ring.slots) ∧
        (∀ k : Fin 3,
          (shows i → hasReady i → t.cams[i].ring.slots[k] = match s.cams[i].ring.slots[k] with
            | .showing _ => .free
            | .ready f => .showing f
            | x => x) ∧
          (¬shows i → t.cams[i].ring.slots[k] = match s.cams[i].ring.slots[k] with
            | .showing _ => .free
            | x => x))) ∧
      t.comp.context = some ctx ∧ t.comp.previousView = some s.sel.selected ∧
      t.comp.framesComposed = min (s.comp.framesComposed + 1) 4294967295 ∧
      (∀ l : List (Fin 4), l.Nodup → s.comp.repeats ≤ 4294967295 →
        (∀ i, i ∈ l ↔ shows i ∧ ¬hasReady i ∧ ∃ (k : Fin 3) (f : Frame), s.cams[i].ring.slots[k] = .showing f) →
        t.comp.repeats = min (s.comp.repeats + l.length) 4294967295) ∧
      ctx.viewNumber = s.sel.selected ∧ ctx.isLatchedView = true ∧ ctx.time = time ∧
      (ctx.frame.areaW, ctx.frame.areaH) = (match s.disp.current with
        | .t0 => (800, 480) | .t1 => (1024, 600) | .t2 => (1280, 720) | .t3 => (1280, 800)) ∧
      ctx.frame.overlays = v.overlays ∧ (∀ n : Fin 16, ctx.frame.signals[n] = s.sig.signals[n].value) ∧
      (ctx.frame.slowVisible = true ↔ time % 1000 < 500) ∧ (ctx.frame.fastVisible = true ↔ time % 400 < 200) ∧
      ctx.frame.meshWithdrawnAt = none ∧ ctx.frame.tiles.map LatchedTile.tile = v.tiles ∧
      (∀ x ∈ ctx.frame.tiles,
        ((∃ a b c d, x.tile.mapping = .linear a b c d) → x.decision = .linear) ∧
        (∀ n : Fin 8, x.tile.mapping = .mesh n →
          (∀ m, s.mesh.slots[n] = .ready m → m.cols = (x.tile.w - 1) / 32 + 2 → m.rows = (x.tile.h - 1) / 32 + 2 →
            x.decision = .mesh m.nodes) ∧
          ((∀ m, s.mesh.slots[n] = .ready m →
            m.cols ≠ (x.tile.w - 1) / 32 + 2 ∨ m.rows ≠ (x.tile.h - 1) / 32 + 2) → x.decision = .fault))) ∧
      (t.comp.tileFault = true ↔ ∃ x ∈ ctx.frame.tiles, x.decision = .fault) ∧
      (∀ i : Fin 4,
        (¬shows i → ctx.frame.cams[i] = none ∧ ctx.slotRefs[i] = none) ∧
        (shows i → ∃ l, ctx.frame.cams[i] = some l ∧
          l.gain = s.cams[i].meter.gain ∧ l.picture = s.cams[i].ring.picture ∧ l.clarity = s.cams[i].meter.clarity ∧
          l.width = s.cams[i].port.config.items.width ∧ l.height = s.cams[i].port.config.items.height ∧
          l.withdrawnAt = none ∧
          (∀ (k : Fin 3) (f : Frame), t.cams[i].ring.slots[k] = .showing f →
            ctx.slotRefs[i] = some k ∧ l.rows = some f.rows) ∧
          ((∀ (k : Fin 3) (f : Frame), t.cams[i].ring.slots[k] ≠ .showing f) →
            ctx.slotRefs[i] = none ∧ l.rows = none)))

/-- The display output's requests (R116, R117, R119, R120, R122, R123, R124): what each does in each output state and how each is refused;
entering OFF keeps the picture on the monitor, the frame it cuts off included by the model's choice (assumption 36); an accepted request carries the output state, the timings and hold pending as they stand
after it. -/
def Obligations.OutputRequestsByState : Prop :=
  ∀ (s : State) (h : Header), s.powered = true →
    let a := s.frameArrives
    let d := a.disp
    let taken := fun (type : Byte) (e : Display) => (Host.Outcome.next
      (State.answered { a with disp := e } type h .ok (.output ⟨e.state, e.current, e.staged, e.holdPending⟩)) :
      Host.Outcome State Fault Refusal)
    let refused := fun (type : Byte) (code : ResultCode) =>
      (Host.Outcome.next (a.answered type h code .nothing) : Host.Outcome State Fault Refusal)
    let starting := fun (e : Display) (x : Timing) => { e with
      state := .starting, current := x, staged := none, holdPending := false
      settleTimer := some (a.clock + 300 * 200), holdTimer := none, nextStart := some (a.clock + 5000)
      sending := .black, heldPicture := none }
    let off := fun e : Display => { e with
      state := .off, holdPending := false, settleTimer := none, holdTimer := none, nextStart := none
      sending := .nothing, shown := a.screen }
    (h.len = 0 →
      (d.state = .off → exec (.outputEnable h) s =
        taken 0x40#8 (starting { d with enable := true } (d.staged.getD d.current))) ∧
      (d.state = .stopping → exec (.outputEnable h) s = taken 0x40#8 { d with enable := true, stopToStarting := true }) ∧
      (d.state = .starting ∨ d.state = .running ∨ d.state = .hold →
        exec (.outputEnable h) s = taken 0x40#8 { d with enable := true }) ∧
      (d.state = .running → exec (.outputDisable h) s =
        taken 0x41#8 { d with enable := false, state := .stopping, stopToStarting := false, holdPending := false }) ∧
      (d.state = .stopping → exec (.outputDisable h) s =
        taken 0x41#8 { d with enable := false, stopToStarting := false }) ∧
      (d.state = .starting ∨ d.state = .hold →
        exec (.outputDisable h) s = taken 0x41#8 (off { d with enable := false })) ∧
      (d.state = .off → exec (.outputDisable h) s = taken 0x41#8 { d with enable := false }) ∧
      (d.state ≠ .running → exec (.outputHold h) s = refused 0x42#8 .wrongState) ∧
      (d.state = .running → a.sig.movingValue = true → exec (.outputHold h) s = refused 0x42#8 .notWhileMoving) ∧
      (d.state = .running → a.sig.movingValue = false →
        exec (.outputHold h) s = taken 0x42#8 { d with holdPending := true }) ∧
      (∀ x, d.state = .hold → d.staged = some x → x ≠ d.current →
        exec (.outputResume h) s = taken 0x43#8 (starting d x)) ∧
      (d.state = .hold → (∀ x, d.staged = some x → x = d.current) →
        exec (.outputResume h) s = taken 0x43#8 { d with state := .running, holdTimer := none, staged := none }) ∧
      (d.state = .running → d.holdPending = true →
        exec (.outputResume h) s = taken 0x43#8 { d with holdPending := false }) ∧
      (d.state ≠ .hold → ¬(d.state = .running ∧ d.holdPending = true) →
        exec (.outputResume h) s = refused 0x43#8 .wrongState)) ∧
    (h.len = 1 → ∀ n : Nat,
      (3 < n → exec (.setOutputTiming h n) s = refused 0x44#8 .badValue) ∧
      (n ≤ 3 → d.state = .starting ∨ d.state = .running ∨ d.state = .stopping →
        exec (.setOutputTiming h n) s = refused 0x44#8 .wrongState) ∧
      (n ≤ 3 → d.state = .off ∨ d.state = .hold → exec (.setOutputTiming h n) s = taken 0x44#8 { d with
        staged := some (if n = 0 then .t0 else if n = 1 then .t1 else if n = 2 then .t2 else .t3) }))

/-! ### Signals and standby (chapter 8) -/

/-- What an event of the signal unit sets off (R135, R139, R147): with the unit left as `u`, the activation of a wire of the wake set
wakes a part in standby: WOKE is given, each port that recorded being enabled is powered and a present carrier begins a sweep, its
lost deadline starts, and the display output enters STARTING if its output enable is yes (R22, R33, R125). Then, woken or not, the
selector re-evaluates once if any signal value changed; and the display output learns that the moving signal became true, which
cancels a pending hold and leaves HOLD (R120, R122). -/
def Obligations.SignalChangesAreHandedOn : Prop :=
  ∀ (s : State) (u : SignalUnit) (w y : State),
    let x := s.signalEvent u
    let activated := ∃ n : Fin 6, s.sig.active n = false ∧ u.active n = true ∧ u.config.wakeSet.getLsbD n = true
    let moved := s.sig.movingValue = false ∧ u.movingValue = true
    let same := ∀ i : Fin 16, u.signals[i].value = s.sig.signals[i].value
    let woken : State := { s with
      sig := { u with standby := false }
      cams := mapTable (fun c =>
        if c.port.wasEnabled then
          { c with
            port :=
              (let p := { c.port with linkPower := true, wasEnabled := false }
               if p.carrier then p.sweeping s.clock else p)
            ring := { c.ring with lostTimer := some (s.clock + 300 * c.port.config.items.lostLimit) } }
        else c) s.cams
      disp :=
        if s.disp.enable = true ∧ s.disp.state = .off then { s.disp with
          state := .starting, current := s.disp.staged.getD s.disp.current, staged := none, holdPending := false
          settleTimer := some (s.clock + 300 * 200), holdTimer := none, nextStart := some (s.clock + 5000)
          sending := .black, heldPicture := none }
        else s.disp
      sts := { s.sts with events := s.sts.events ||| 0x40000000#32 } }
    (activated ∧ u.standby = true → w = woken) → (¬activated ∨ u.standby = false → w = { s with sig := u }) →
    (same → y = w) → (¬same → y = w.reevaluate) →
    (¬moved → x = y) ∧
    (moved →
      (w.disp.state = .running → x = { y with disp := { w.disp with holdPending := false } }) ∧
      (w.disp.state = .hold → (∀ z, w.disp.staged = some z → z = w.disp.current) →
        x = { y with disp := { w.disp with state := .running, holdTimer := none, staged := none } }) ∧
      (∀ z, w.disp.state = .hold → w.disp.staged = some z → z ≠ w.disp.current →
        x = { y with disp := { w.disp with
          state := .starting, current := z, staged := none, holdPending := false
          settleTimer := some (s.clock + 300 * 200), holdTimer := none, nextStart := some (s.clock + 5000)
          sending := .black, heldPicture := none } }) ∧
      (w.disp.state = .off ∨ w.disp.state = .starting ∨ w.disp.state = .stopping → x = y))

/-- RAW_CHANGE and DEBOUNCE_TIMER_EXPIRY (R129, R130): a change of level stops the timer and, when the level differs from the
accepted one, starts it at the debounce time, or with debounce 0 is accepted at once; the expiry accepts the raw level; the WIRE
signals follow; the changes are handed on. That an expiry
brings the clock to its timer's instant, and that a level the pin already has, or a stopped timer, is no event, are the model's choice
(assumption 11). -/
def Obligations.WiresAreDebounced : Prop :=
  ∀ (s : State) (n : Fin 6) (level : Bool), s.powered = true →
    let d := s.sig.wires[n]
    let ms := s.sig.config.wires[n].debounce
    let follow := fun w : Debouncer => SignalUnit.followWires { s.sig with wires := s.sig.wires.set n w }
    let run := exec (.rawChange n level) s
    let changed := fun w : Debouncer =>
      (Host.Outcome.next (s.signalEvent (follow w)).settle : Host.Outcome State Fault Refusal)
    (level = d.raw → run = .next s) ∧
    (level ≠ d.raw → ms = 0 → run = changed ⟨level, level, none, s.clock⟩) ∧
    (level ≠ d.raw → ms ≠ 0 → level = d.accepted → run = changed ⟨level, d.accepted, none, s.clock⟩) ∧
    (level ≠ d.raw → ms ≠ 0 → level ≠ d.accepted →
      run = changed ⟨level, d.accepted, some (s.clock + 300 * ms), s.clock⟩) ∧
    (∀ x, d.timer = some x → exec (.debounceTimerExpiry n) s = .next (State.settle
      (State.signalEvent { s with clock := max s.clock x } (follow { d with accepted := d.raw, timer := none })))) ∧
    (d.timer = none → exec (.debounceTimerExpiry n) s = .next s) ∧
    (∀ (w : Debouncer) (i : Fin 16),
      (∀ m : Fin 6, s.sig.config.signals[i].source = .wire m →
        (follow w).signals[i] = { s.sig.signals[i] with
          value := ((if m = n then w else s.sig.wires[m]).accepted == (s.sig.config.wires[m].polarity == .activeHigh)) }) ∧
      ((∀ m : Fin 6, s.sig.config.signals[i].source ≠ .wire m) → (follow w).signals[i] = s.sig.signals[i]))

/-- SIGNAL_UPDATE (R131, R132, R133, R170): the payload's bytes hold the mask at 0 and the values at 2, high byte first, bit n for Sn, and
the speed at 4 (R174); each masked MESSAGE signal takes its value, becomes FRESH and restarts its timer; other entries are
not acted on; a fifth byte other than 255 is a speed, at most 250, taken by the SPEED signals by their thresholds; no reply is owed, and a
wrong length is without effect. The refresh timers (R127, R134): at expiry the signal, or every SPEED signal, becomes STALE with its fail
rule's value. Changes are handed on. That an expiry brings the clock to its timer's instant, and that a stopped timer changes nothing,
is the model's choice (assumption 11). -/
def Obligations.SignalsTakenOrStale : Prop :=
  (∀ (s : State) (h : Header) (mask values : Byte × Byte) (speed : Byte), s.powered = true →
     let a := s.frameArrives
     let run := exec (.signalUpdate h mask values speed) s
     let known := h.len = 5 ∧ speed.toNat ≠ 255
     let v := min speed.toNat 250
     let bit := fun (field : Byte × Byte) (i : Fin 16) => (field.1.toNat * 256 + field.2.toNat).testBit i
     (h.len ≠ 4 → h.len ≠ 5 → run = .next a.settle) ∧
     (h.len = 4 ∨ h.len = 5 → ∃ u : SignalUnit, run = .next (a.signalEvent u).settle ∧
       u = { a.sig with signals := u.signals, speed := u.speed, speedFresh := u.speedFresh, speedTimer := u.speedTimer } ∧
       (known → u.speed = some v ∧ u.speedFresh = true ∧
         u.speedTimer = some (a.clock + 300 * a.sig.config.speedTimeout)) ∧
       (¬known → u.speed = a.sig.speed ∧ u.speedFresh = a.sig.speedFresh ∧ u.speedTimer = a.sig.speedTimer) ∧
       (∀ i : Fin 16,
         let r := a.sig.signals[i]
         (a.sig.config.signals[i].source = .message → bit mask i = true →
           u.signals[i] = ⟨bit values i, .fresh, some (a.clock + 300 * a.sig.config.signals[i].timeout)⟩) ∧
         (a.sig.config.signals[i].source = .message → bit mask i = false → u.signals[i] = r) ∧
         (∀ n, a.sig.config.signals[i].source = .wire n → u.signals[i] = r) ∧
         (∀ on off, a.sig.config.signals[i].source = .speed on off → ¬known → u.signals[i] = r) ∧
         (∀ on off, a.sig.config.signals[i].source = .speed on off → known →
           u.signals[i] = ⟨if on ≤ v then true else if v ≤ off then false else r.value, .fresh, none⟩)))) ∧
  (∀ s : State, s.powered = true →
     let failed := fun i : Fin 16 => (⟨match s.sig.config.signals[i].failRule with
       | .hold => s.sig.signals[i].value
       | .setTrue => true
       | .setFalse => false, .stale, none⟩ : SignalRecord)
     (∀ (i : Fin 16) (d : Nat), s.sig.signals[i].timer = some d →
       exec (.refreshTimerExpiry i) s = .next (State.settle (State.signalEvent { s with clock := max s.clock d }
         { s.sig with signals := s.sig.signals.set i (failed i) }))) ∧
     (∀ i : Fin 16, s.sig.signals[i].timer = none → exec (.refreshTimerExpiry i) s = .next s) ∧
     (∀ d, s.sig.speedTimer = some d → ∃ u : SignalUnit,
       exec .speedTimerExpiry s = .next (State.settle (State.signalEvent { s with clock := max s.clock d } u)) ∧
       u = { s.sig with signals := u.signals, speedFresh := false, speedTimer := none } ∧
       ∀ i : Fin 16,
         ((∃ on off, s.sig.config.signals[i].source = .speed on off) → u.signals[i] = failed i) ∧
         ((∀ on off, s.sig.config.signals[i].source ≠ .speed on off) → u.signals[i] = s.sig.signals[i])) ∧
     (s.sig.speedTimer = none → exec .speedTimerExpiry s = .next s))

/-- SET_SIGNAL_CONFIG (R128, R130, R136): the carried ranges and codes decide between BAD_VALUE and OK, debounce times are rounded up
to 0, 10, 20 or 50; the configuration is taken whole; a signal whose source kind, or wire, changes is reinitialised; the changes are
handed on. That a HOLD fail rule keeps the value a signal had is the model's reading (assumption 22), and so is that a debounce moment
equal to the present accepts the level in the event (assumption 28). -/
def Obligations.SignalConfigTakenWhole : Prop :=
  ∀ (s : State) (h : Header) (f : SignalConfigFields), s.powered = true → h.len = 112 →
    let a := s.frameArrives
    let run := exec (.setSignalConfig h f) s
    let legalSource := fun x : SourceFields => match x with
      | .wire n => n ≤ 5
      | .message => True
      | .speed on off => on ≤ 250 ∧ off < on
      | .unknown => False
    let becomes := fun (x : SourceFields) (y : Source) => match y with
      | .wire n => x = .wire n.val
      | .message => x = .message
      | .speed on off => x = .speed on off
    let legal := (∀ i : Fin 16, legalSource f.signals[i].source ∧ f.signals[i].failRule.isSome = true ∧
        50 ≤ f.signals[i].timeout ∧ f.signals[i].timeout ≤ 5000) ∧
      (∀ n : Fin 6, f.wires[n].polarity.isSome = true) ∧ 50 ≤ f.speedTimeout ∧ f.speedTimeout ≤ 5000 ∧ f.moving ≤ 15
    (¬legal → run = .next (a.answered 0x39#8 h .badValue .nothing)) ∧
    (legal → ∃ u : SignalUnit,
      run = .next ((a.signalEvent u).answered 0x39#8 h .ok .nothing) ∧
      u = { a.sig with config := u.config, wires := u.wires, signals := u.signals } ∧
      (∀ i : Fin 16, becomes f.signals[i].source u.config.signals[i].source ∧
        f.signals[i].failRule = some u.config.signals[i].failRule ∧
        u.config.signals[i].timeout = f.signals[i].timeout) ∧
      (∀ n : Fin 6, f.wires[n].polarity = some u.config.wires[n].polarity ∧
        u.config.wires[n].debounce = (if f.wires[n].debounce = 0 then 0 else if f.wires[n].debounce ≤ 10 then 10
          else if f.wires[n].debounce ≤ 20 then 20 else 50)) ∧
      u.config.speedTimeout = f.speedTimeout ∧ u.config.moving.val = f.moving ∧ u.config.wakeSet = f.wakeSet ∧
      (∀ n : Fin 6,
        let d := a.sig.wires[n]
        let due := d.lastChange + 300 * u.config.wires[n].debounce
        (u.config.wires[n].debounce = a.sig.config.wires[n].debounce ∨ d.timer = none → u.wires[n] = d) ∧
        (u.config.wires[n].debounce ≠ a.sig.config.wires[n].debounce → d.timer ≠ none →
          u.wires[n] = if due ≤ a.clock then { d with accepted := d.raw, timer := none }
            else { d with timer := some due })) ∧
      (∀ i : Fin 16,
        let r := a.sig.signals[i]
        let before := a.sig.config.signals[i]
        let rule := u.config.signals[i].failRule
        let failValue := match rule with
          | .hold => r.value
          | .setTrue => true
          | .setFalse => false
        (∀ n, u.config.signals[i].source = .wire n → u.signals[i].value = u.active n ∧
          (before.source ≠ .wire n → u.signals[i].freshness = .none ∧ u.signals[i].timer = none)) ∧
        (u.config.signals[i].source = .message →
          (before.source ≠ .message → u.signals[i] = ⟨failValue, .stale, none⟩) ∧
          (before.source = .message → u.signals[i] =
            if r.freshness = .stale ∧ before.failRule ≠ rule then { r with value := failValue } else r)) ∧
        (∀ on off v, u.config.signals[i].source = .speed on off → a.sig.speedFresh = true → a.sig.speed = some v →
          ((∀ x y, before.source ≠ .speed x y) → u.signals[i] = ⟨decide (on ≤ v), .fresh, none⟩) ∧
          (∀ x y, before.source = .speed x y → u.signals[i] =
            if x = on ∧ y = off then r
            else { r with value := if on ≤ v then true else if v ≤ off then false else r.value })) ∧
        (∀ on off, u.config.signals[i].source = .speed on off → a.sig.speedFresh = false →
          ((∀ x y, before.source ≠ .speed x y) → u.signals[i] = ⟨failValue, .stale, none⟩) ∧
          (∀ x y, before.source = .speed x y → u.signals[i] =
            if r.freshness = .stale ∧ before.failRule ≠ rule then { r with value := failValue } else r))))

/-- ENTER_STANDBY (R22, R102, R116, R125, R138): refused while the moving signal is true; otherwise every enabled port is flushed, enters
DOWN and loses its link power, the output enters OFF and the picture on the monitor stays, the composer discards its context, and the part
is in standby. That a frame cut off here stays on the monitor as it stood, whole, is the model's choice (assumption 36). -/
def Obligations.StandbyEntered : Prop :=
  ∀ (s : State) (h : Header), s.powered = true → h.len = 0 →
    let a := s.frameArrives
    (a.sig.movingValue = true → exec (.enterStandby h) s = .next (a.answered 0x3B#8 h .notWhileMoving .nothing)) ∧
    (a.sig.movingValue = false → ∃ cams : Vector Cam 4,
      exec (.enterStandby h) s = .next (State.answered { a with
        cams := cams
        comp := { a.comp with context := none, tileFault := false }
        disp := { a.disp with
          state := .off, holdPending := false, settleTimer := none, holdTimer := none, nextStart := none
          sending := .nothing, shown := a.screen }
        sig := { a.sig with standby := true } } 0x3B#8 h .ok .nothing) ∧
      ∀ i : Fin 4,
        (a.cams[i].port.config.enabled = false → cams[i] = a.cams[i]) ∧
        (a.cams[i].port.config.enabled = true → cams[i] = Cam.emptied { a.cams[i] with port :=
          { a.cams[i].port.atRest with link := .down, linkPower := false, wasEnabled := true } } a.clock false))

/-! ### Status, errors and profiles (chapter 10) -/

/-- IDENTIFY, RESET_PART, READ_EVENTS and SET_EVENT_ENABLE (R158, R159, R176, R178): what each reply carries; reading the events
clears the whole event set; the carried mask replaces the enable mask, and ATTN is recomputed at the end of the event; RESET_PART itself
only owes its reply. The revision is a free value (assumption 6). -/
def Obligations.PartAndEventRequests : Prop :=
  ∀ (s : State) (h : Header), s.powered = true →
    let a := s.frameArrives
    (h.len = 0 →
      (∃ r : IdentifyData, exec (.identify h) s = .next (a.answered 0x01#8 h .ok (.identify r)) ∧
        r.family = 0x46 ∧ r.member = 4 ∧ 1 ≤ r.revision ∧ r.revision ≤ 255 ∧ r.rate = a.link.rate ∧ r.ports = 4 ∧
        r.time = a.clock / 300 % 4294967296 ∧ r.counters = a.link.counters) ∧
      exec (.resetPart h) s = .next (a.answered 0x02#8 h .ok .nothing) ∧
      exec (.readEvents h) s = .next (State.answered { a with sts := { a.sts with events := 0 } } 0x49#8 h .ok
        (.events a.sts.events))) ∧
    (h.len = 4 → ∀ mask, exec (.setEventEnable h mask) s =
      .next (State.answered { a with sts := { a.sts with enable := mask } } 0x4A#8 h .ok .nothing))

/-- The error queue (R160) and READ_ERROR (R161): appended, replaced by QUEUE_OVERFLOW or counted in it by how full the queue is,
never more than 16 entries, ERROR_PENDING true exactly while one is held; a read carries and removes the oldest entry, and an empty queue
gives NO_ERROR. -/
def Obligations.ErrorQueueKeepsSixteen : Prop :=
  (∀ (s : State) (code : ErrorCode) (detail : Nat),
    let t := s.queueError code detail
    let q := s.sts.errors
    let e : ErrorEntry := ⟨code, detail, s.timeBase % 65536⟩
    t = { s with sts := { s.sts with errors := t.sts.errors } } ∧
    (q.length < 16 → t.sts.errors = q ++ [e]) ∧
    (∀ l x, q = l ++ [x] → q.length = 16 → x.code ≠ .queueOverflow → t.sts.errors = l ++ [⟨.queueOverflow, 2, e.time⟩]) ∧
    (∀ l x, q = l ++ [x] → q.length = 16 → x.code = .queueOverflow →
      t.sts.errors = l ++ [{ x with detail := min (x.detail + 1) 255 }]) ∧
    (q.length ≤ 16 → t.sts.errors.length ≤ 16) ∧
    (t.settle.sts.conditions.getLsbD 29 = true ↔ t.sts.errors ≠ [])) ∧
  (∀ (s : State) (h : Header), s.powered = true → h.len = 0 →
    let a := s.frameArrives
    (a.sts.errors = [] → exec (.readError h) s = .next (a.answered 0x4B#8 h .ok (.error .noError 0 0 0))) ∧
    (∀ e rest, a.sts.errors = e :: rest → ∃ t,
      exec (.readError h) s = .next t ∧
      t = State.answered { a with sts := { a.sts with errors := rest } } 0x4B#8 h .ok
        (.error e.code e.detail e.time rest.length) ∧
      (t.sts.conditions.getLsbD 29 = true ↔ rest ≠ [])))

/-- SAVE_PROFILE and PROFILE_SAVE_COMPLETION (R162, R163): BAD_VALUE, BUSY, or the snapshot of the whole configuration is taken and the
save is in progress; a completion whose verify passes leaves the slot VALID with PROFILE_SAVED, otherwise INVALID with PROFILE_FAULT and
its error entry. The check code is a free function of the profile (assumption 5). -/
def Obligations.ProfileSavedAndVerified : Prop :=
  ∀ (s : State) (h : Header) (slot : Nat), s.powered = true →
    let a := s.frameArrives
    (h.len = 1 →
      let run := exec (.saveProfile h slot) s
      (3 < slot → run = .next (a.answered 0x50#8 h .badValue .nothing)) ∧
      (∀ n : Fin 4, slot = n.val → a.prf.save ≠ none → run = .next (a.answered 0x50#8 h .busy .nothing)) ∧
      (∀ n : Fin 4, slot = n.val → a.prf.save = none → ∃ p : Profile,
        run = .next (State.answered { a with prf := { a.prf with save := some ⟨n, p⟩ } } 0x50#8 h .ok .nothing) ∧
        (∀ i : Fin 4, p.ports[i] = a.cams[i].port.config ∧ p.meters[i] = a.cams[i].meter.config) ∧
        (∀ i : Fin 8, p.meshes[i] = match a.mesh.slots[i] with
          | .ready m => some m
          | _ => none) ∧
        p.views = a.views ∧ (∀ i : Fin 16, p.table[i] = (a.sel.entries[i]).map fun e => e.config) ∧
        p.defaultView = a.sel.defaultView ∧ p.signals = a.sig.config ∧ p.outputEnable = a.disp.enable ∧
        p.timing = a.disp.staged.getD a.disp.current ∧ p.enableMask = a.sts.enable)) ∧
    (∀ v, s.prf.save = some v →
      exec (.profileSaveCompletion true) s = .next (State.settle { s with
        prf := ⟨s.prf.slots.set v.slot (.valid v.snapshot (Config.profileCheck v.snapshot)), none⟩
        sts := { s.sts with events := s.sts.events ||| 0x02000000#32 } }) ∧
      exec (.profileSaveCompletion false) s = .next (State.settle { s with
        prf := ⟨s.prf.slots.set v.slot .invalid, none⟩
        sts := { s.sts with
          events := s.sts.events ||| 0x04000000#32
          errors := pushError s.sts.errors ⟨.profileFault, v.slot.val, s.timeBase % 65536⟩ } })) ∧
    (s.prf.save = none → ∀ verified, exec (.profileSaveCompletion verified) s = .next s)

/-- LOAD_PROFILE (R23, R32, R59, R71, R72, R79, R94, R101, R114, R116, R126, R140, R155, R164): the tests in their order, a corrupt slot
becoming INVALID with its PROFILE_FAULT; an accepted load replaces the whole configuration, each camera acts by the table of R23, the
override ends, every entry is HELD or IDLE by its terms, and the upload ends; the composer keeps its context, with its use of meshes and of
the flushed cameras' slots withdrawn and no latched view, and TILE_FAULT; the output acts by the table of R126, state, timings and timers.
The model's choices and readings: the number of pixels drawn at the withdrawal is free (assumption 4); the output acts by R126 first and
then learns that the moving signal became true, which leaves a kept HOLD (assumption 18); a signal with fail rule HOLD keeps its value
(assumption 22); a running debounce timer moves as R130 states, a moment equal to the present accepting the level (assumptions 28 and 35); a frame that
an entry into OFF cuts off stays on the monitor (assumption 36). -/
def Obligations.ProfileLoadReplacesTheConfiguration : Prop :=
  ∀ (s : State) (h : Header) (slot : Nat), s.powered = true → h.len = 1 →
    let a := s.frameArrives
    let run := exec (.loadProfile h slot) s
    let refused := fun code : ResultCode =>
      (Host.Outcome.next (a.answered 0x51#8 h code .nothing) : Host.Outcome State Fault Refusal)
    (3 < slot → run = refused .badValue) ∧
    (∀ n : Fin 4, slot = n.val →
      (a.prf.save ≠ none → run = refused .busy) ∧
      (a.prf.save = none → (∀ p check, a.prf.slots[n] ≠ .valid p check) → run = refused .notFound) ∧
      (∀ p check, a.prf.save = none → a.prf.slots[n] = .valid p check → Config.profileCheck p ≠ check →
        run = .next (State.answered { a with
          prf := { a.prf with slots := a.prf.slots.set n .invalid }
          sts := { a.sts with
            events := a.sts.events ||| 0x04000000#32
            errors := pushError a.sts.errors ⟨.profileFault, n.val, a.timeBase % 65536⟩ } } 0x51#8 h .notFound .nothing)) ∧
      (∀ p check, a.prf.save = none → a.prf.slots[n] = .valid p check → Config.profileCheck p = check →
        (a.sig.movingValue = true → run = refused .notWhileMoving) ∧
        (a.sig.movingValue = false → ∃ t : State, run = .next (t.answered 0x51#8 h .ok .nothing) ∧
          t.snapshot = p ∧ t.prf = a.prf ∧ t.link = a.link ∧ t.clock = a.clock ∧
          t.sts = { a.sts with enable := p.enableMask } ∧ t.powered = a.powered ∧ t.pending = a.pending ∧
          (∀ i : Fin 4,
            let c := a.cams[i]
            let d : Cam := { c with
              port := { c.port with config := p.ports[i] }
              meter := ⟨p.meters[i], max p.meters[i].gainMin (min c.meter.gain p.meters[i].gainMax), 0, []⟩ }
            let live := c.port.link = .training ∨ c.port.link = .locked ∨ c.port.link = .failed
            (c.port.link = .disabled → p.ports[i].enabled = false → t.cams[i] = d) ∧
            (c.port.link = .disabled → p.ports[i].enabled = true → t.cams[i] = { d with
              port := (let q := { d.port with link := .down }; if q.carrier then q.sweeping a.clock else q)
              ring := { d.ring with lostTimer := some (a.clock + 300 * d.port.config.items.lostLimit) } }) ∧
            (c.port.link = .down → p.ports[i].enabled = true → t.cams[i] = { d with
              port := if d.port.carrier then d.port.sweeping a.clock else d.port }) ∧
            (live → p.ports[i].enabled = true → t.cams[i] = d.retrained a.clock) ∧
            (live ∨ c.port.link = .down → p.ports[i].enabled = false →
              t.cams[i] = Cam.emptied { d with port := { d.port.atRest with link := .disabled } } a.clock false)) ∧
          t.mesh.upload = none ∧ t.comp.latchedView = none ∧
          (a.comp.context = none → t.comp = a.comp ∧ t.freeCount = a.freeCount) ∧
          (∀ ctx, a.comp.context = some ctx → t.freeCount = a.freeCount + 1 ∧
            ∃ (drawn : Nat) (refs : Vector (Option (Fin 3)) 4) (latched : Vector (Option LatchedCamera) 4), ctx.drawn ≤ drawn ∧
            t.comp = { a.comp with context := some { ctx with
              drawn := drawn, isLatchedView := false, slotRefs := refs
              frame := { ctx.frame with
                cams := latched
                meshWithdrawnAt := if ctx.frame.meshWithdrawnAt = none then some drawn else ctx.frame.meshWithdrawnAt } } } ∧
            ∀ i : Fin 4,
              let link := a.cams[i].port.link
              let flushed := link = .training ∨ link = .locked ∨ link = .failed ∨
                (link = .down ∧ p.ports[i].enabled = false)
              let withdrawn := fun l : LatchedCamera =>
                { l with withdrawnAt := if l.withdrawnAt = none then some drawn else l.withdrawnAt }
              (¬flushed ∨ ctx.slotRefs[i] = none → refs[i] = ctx.slotRefs[i] ∧ latched[i] = ctx.frame.cams[i]) ∧
              (flushed → ctx.slotRefs[i] ≠ none → refs[i] = none ∧ latched[i] = (ctx.frame.cams[i]).map withdrawn)) ∧
          t.sel.override = none ∧ t.sel.active = t.sel.choice ∧ t.sel.selected = t.sel.viewOf t.sel.active ∧
          t.sel.activation = (if t.sel.active = a.sel.active then a.sel.activation else a.timeBase) ∧
          (∀ (i : Fin 16) (e : Entry), t.sel.entries[i] = some e →
            e.state = if EntryConfig.termsHold e.config t.sig.values then .held else .idle) ∧
          t.sig = a.sig.configure p.signals a.clock ∧
          let L := p.timing
          let base := { a.disp with enable := p.outputEnable, holdPending := false, staged := none }
          let starting := { base with
            state := .starting, current := L, settleTimer := some (a.clock + 300 * 200), holdTimer := none
            nextStart := some (a.clock + 5000), sending := .black, heldPicture := none }
          let off := { base with
            state := .off, current := L, settleTimer := none, holdTimer := none, nextStart := none
            sending := .nothing, shown := a.screen }
          let stagedL := if L = a.disp.current then none else some L
          let loaded : Display := match a.disp.state, p.outputEnable with
            | .off, true => starting
            | .off, false => { base with current := L }
            | .starting, true => if L = a.disp.current then base else starting
            | .starting, false => off
            | .running, true => if L = a.disp.current then base
              else { base with state := .stopping, stopToStarting := true, staged := some L }
            | .running, false => { base with state := .stopping, stopToStarting := false, staged := stagedL }
            | .hold, true => if L = a.disp.current then base else starting
            | .hold, false => off
            | .stopping, on => { base with stopToStarting := on, staged := stagedL }
          (t.sig.movingValue = true → loaded.state = .hold →
            t.disp = { loaded with state := .running, holdTimer := none }) ∧
          (t.sig.movingValue = false ∨ loaded.state ≠ .hold → t.disp = loaded))))

/-! ### Control link port (chapter 11) -/

/-- The reception faults and collisions (R168, R169, R173), on a line with nothing owed or sent and with any part of a frame already
received: bytes that carry a frame on are kept and restart the gap timer; a stop-bit fault, a bad LEN, the gap or a wrong CHECK discards
the frame with its error entry; a byte that begins no frame is discarded without one. With a reply owed or anything sent, the first byte
is a collision, which drops the reply or the notice with its error entry and is then taken in HUNT, and the rest arrives after it (a
collision that ends an accepted RESET_PART's reply is stated apart). The model's choices: bytes that complete a valid frame, or spell
another event than the command's, are no such event and change nothing (assumption 8); the gap's expiry brings the clock to its instant
(assumption 11); a COLLISION with nothing owed or sent changes nothing (assumption 27); a colliding byte is an event of its own
(assumption 9). -/
def Obligations.ReceptionFaultsAndCollisions : Prop :=
  ∀ s : State, s.powered = true →
    let engaged := s.link.owed ≠ none ∨ s.link.tx ≠ .idle
    let discarded := fun (now : Nat) (stop : Nat) (code : ErrorCode) (detail : Nat) => (Host.Outcome.next (State.settle { s with
      clock := now
      sts := { s.sts with errors := pushError s.sts.errors ⟨code, detail, now / 300 % 4294967296 % 65536⟩ }
      link := { s.link with
        rx := ⟨.hunt, [], none⟩, lastStop := stop
        counters := { s.link.counters with
          framesDiscarded := min (s.link.counters.framesDiscarded + 1) 4294967295 } } }) :
      Host.Outcome State Fault Refusal)
    let received := fun rx : Receiver => (Host.Outcome.next (State.settle { s with
      link := { s.link with rx := rx, lastStop := s.clock } }) : Host.Outcome State Fault Refusal)
    let body := fun (len : Byte) (rest : List Byte) => 2 ≤ len.toNat ∧ len.toNat ≤ 250 ∧ rest.length < 2 + len.toNat
    let inBody := fun (len : Byte) (rest : List Byte) (gap : Nat) =>
      (⟨if rest.length < len.toNat then .body else .check, 0xC5#8 :: len :: rest, some gap⟩ : Receiver)
    (¬engaged →
      (s.link.rx = ⟨.hunt, [], none⟩ → ∀ b : Byte,
        exec (.linkFraming [] b true) s = received ⟨.hunt, [], none⟩ ∧
        (b ≠ 0xC5#8 → exec (.linkFraming [] b false) s = received ⟨.hunt, [], none⟩) ∧
        (b = 0xC5#8 → exec (.linkFraming [] b false) s = received ⟨.length, [0xC5#8], none⟩)) ∧
      (∀ kept more : List Byte,
        (kept = [] ∧ s.link.rx = ⟨.hunt, [], none⟩) ∨ (kept = [0xC5#8] ∧ s.link.rx = ⟨.length, [0xC5#8], none⟩) ∨
        (∃ len rest gap, kept = 0xC5#8 :: len :: rest ∧ body len rest ∧ s.link.rx = inBody len rest gap) →
        (kept ++ more = [0xC5#8] → ∀ last : Byte,
          exec (.linkFraming more last true) s = discarded s.clock s.clock .linkFraming 1 ∧
          (last.toNat < 2 ∨ 250 < last.toNat →
            exec (.linkFraming more last false) s = discarded s.clock s.clock .linkFraming 0) ∧
          (2 ≤ last.toNat → last.toNat ≤ 250 →
            exec (.linkFraming more last false) s = received (inBody last [] (s.clock + 300 * 2)))) ∧
        (∀ len rest, kept ++ more = 0xC5#8 :: len :: rest → body len rest →
          (∀ last : Byte, exec (.linkFraming more last true) s =
            discarded s.clock s.clock .linkFraming (min (2 + rest.length) 255)) ∧
          (∀ last : Byte, rest.length + 1 < 2 + len.toNat →
            exec (.linkFraming more last false) s = received (inBody len (rest ++ [last]) (s.clock + 300 * 2)) ∧
            exec (.linkCheck (more ++ [last])) s = received (inBody len (rest ++ [last]) (s.clock + 300 * 2))) ∧
          (more ≠ [] → exec (.linkGap more) s =
            discarded (s.clock + 300 * 2) s.clock .linkGap (min (2 + rest.length) 255)) ∧
          (∀ gap, more = [] → s.link.rx = inBody len rest gap → exec (.linkGap more) s =
            discarded (max s.clock gap) (gap - 300 * 2) .linkGap (min (2 + rest.length) 255))) ∧
        (∀ (len type tag hi lo : Byte) (payload : List Byte),
          kept ++ more = 0xC5#8 :: len :: type :: tag :: payload ++ [hi, lo] → more ≠ [] →
          2 ≤ len.toNat → len.toNat ≤ 250 → payload.length + 2 = len.toNat →
          let check := crc16 (len :: type :: tag :: payload)
          (hi.toNat * 256 + lo.toNat ≠ check.toNat →
            exec (.linkCheck more) s = discarded s.clock s.clock .linkCheck type.toNat) ∧
          (hi.toNat * 256 + lo.toNat = check.toNat → exec (.linkCheck more) s = .next s))) ∧
      (s.link.rx.gapTimer = none → exec (.linkGap []) s = .next s) ∧
      (∀ b f, exec (.collision b f) s = .next s)) ∧
    (engaged →
      (∀ b f, exec (.linkFraming [] b f) s = exec (.collision b f) s) ∧
      (∀ (b : Byte) (rest : List Byte) (t : State), exec (.collision b false) s = .next t →
        (exec (.linkGap (b :: rest)) s = exec (.linkGap rest) t ∨
          (exec (.linkGap (b :: rest)) s = .next s ∧ exec (.linkGap rest) t = .next t)) ∧
        (∀ last f, exec (.linkFraming (b :: rest) last f) s = exec (.linkFraming rest last f) t ∨
          (exec (.linkFraming (b :: rest) last f) s = .next s ∧ exec (.linkFraming rest last f) t = .next t)) ∧
        (exec (.linkCheck (b :: rest)) s = exec (.linkCheck rest) t ∨
          (exec (.linkCheck (b :: rest)) s = .next s ∧ exec (.linkCheck rest) t = .next t))) ∧
      ∀ (b : Byte) (f : Bool), ∃ t, exec (.collision b f) s = .next t ∧
        ∀ detail : Nat, (detail = match s.link.owed with
          | some r => r.type.toNat
          | none => 0x7E) →
        (∀ r, s.link.owed = some r → ¬(r.type = 0x82#8 ∧ r.code = .ok)) →
        t = { s with
          sts := { t.sts with enable := s.sts.enable }
          link := { s.link with
            owed := none, tx := .idle, lastStop := s.clock, noticePending := t.link.noticePending
            rx := if f = false ∧ b = 0xC5#8 then ⟨.length, [0xC5#8], none⟩ else ⟨.hunt, [], none⟩
            counters := { s.link.counters with
              repliesDropped := if s.link.owed = none then s.link.counters.repliesDropped
                else min (s.link.counters.repliesDropped + 1) 4294967295
              noticesDropped := if s.link.owed = none then min (s.link.counters.noticesDropped + 1) 4294967295
                else s.link.counters.noticesDropped } } } ∧
        t.sts.errors = pushError s.sts.errors ⟨.linkCollision, detail, s.timeBase % 65536⟩ ∧
        (∀ n, s.sts.events.getLsbD n = true → t.sts.events.getLsbD n = true) ∧
        (s.link.noticePending = true → t.link.noticePending = true))

/-- Replies and notices (R171, R172): the owed reply starts no sooner than 0.1 ms after it became owed, and its end is counted and
ends the owed reply; a notice starts when it is pending with nothing owed, the transmitter idle, the receiver in HUNT and the line idle
for 3 ms, carries both sets as they stand, and its end is counted. The end of a reply to an accepted RESET_PART is stated apart. What is
sent: the frame's bytes and its check (R1, R168), the values of the result codes and the payload of a reply without result data (R171), the
notice's payload (R174), each byte as a character of ten bits, and the transmitter enabled only while the powered part sends (R167). That a
beginning brings the clock to its earliest instant (assumptions 11 and 15), and that a beginning or an end which the port's state does not
allow changes nothing (assumption 11), are the model's choices. -/
def Obligations.RepliesAndNoticesAreSent : Prop :=
  (∀ s : State, s.powered = true →
    (∀ r, s.link.owed = some r → s.link.tx = .idle → exec .replyStart s = .next (State.settle { s with
      clock := max s.clock (r.owedAt + 30), link := { s.link with tx := .reply } })) ∧
    (s.link.owed = none ∨ s.link.tx ≠ .idle → exec .replyStart s = .next s) ∧
    (∀ r, s.link.owed = some r → s.link.tx = .reply → ¬(r.type = 0x82#8 ∧ r.code = .ok) →
      exec .replyEnd s = .next (State.settle { s with link := { s.link with
        owed := none, tx := .idle, lastStop := s.clock
        counters := { s.link.counters with repliesSent := min (s.link.counters.repliesSent + 1) 4294967295 } } })) ∧
    (s.link.owed = none ∨ s.link.tx ≠ .reply → exec .replyEnd s = .next s) ∧
    (s.link.noticePending = true → s.link.owed = none → s.link.tx = .idle → s.link.rx.state = .hunt →
      let now := max s.clock (s.link.lastStop + 300 * 3)
      exec .noticeStart s = .next (State.settle { s with clock := now, link := { s.link with
        noticePending := false, tx := .notice ⟨s.sts.conditions, s.sts.events, now / 300 % 4294967296⟩ } })) ∧
    (s.link.noticePending = false ∨ s.link.owed ≠ none ∨ s.link.tx ≠ .idle ∨ s.link.rx.state ≠ .hunt →
      exec .noticeStart s = .next s) ∧
    (∀ n, s.link.tx = .notice n → exec .noticeEnd s = .next (State.settle { s with link := { s.link with
      tx := .idle, lastStop := s.clock
      counters := { s.link.counters with noticesSent := min (s.link.counters.noticesSent + 1) 4294967295 } } })) ∧
    ((∀ n, s.link.tx ≠ .notice n) → exec .noticeEnd s = .next s)) ∧
  (∀ s : State, s.txEnable = true ↔ s.powered = true ∧ s.link.tx ≠ .idle) ∧
  (∀ (l : List Byte) (b : Byte), crc16 [] = 0xFFFF#16 ∧ crc16 (l ++ [b]) = (List.range 8).foldl
    (fun (r : BitVec 16) _ => if r.getLsbD 15 then (r <<< 1) ^^^ 0x1021#16 else r <<< 1)
    (crc16 l ^^^ BitVec.ofNat 16 (b.toNat * 256))) ∧
  (∀ (type tag : Byte) (payload : List Byte), payload.length ≤ 248 → ∃ len hi lo : Byte,
    frameBytes type tag payload = 0xC5#8 :: len :: type :: tag :: payload ++ [hi, lo] ∧ len.toNat = payload.length + 2 ∧
    hi.toNat * 256 + lo.toNat = (crc16 (len :: type :: tag :: payload)).toNat) ∧
  ([ResultCode.ok, .unknownType, .badLength, .badValue, .notFound, .inUse, .noSpace, .busy, .wrongState, .notWhileMoving,
    .sequence].map ResultCode.value = List.range 11) ∧
  (∀ r : Reply, ∃ code : Byte, code.toNat = r.code.value ∧ r.bareFrame = frameBytes r.type r.tag [code]) ∧
  (∀ n : Notice, ∃ c3 c2 c1 c0 e3 e2 e1 e0 t3 t2 t1 t0 : Byte,
    let value := fun b3 b2 b1 b0 : Byte => ((b3.toNat * 256 + b2.toNat) * 256 + b1.toNat) * 256 + b0.toNat
    n.frame = frameBytes 0x7E#8 0#8 [c3, c2, c1, c0, e3, e2, e1, e0, t3, t2, t1, t0] ∧
    value c3 c2 c1 c0 = n.conditions.toNat ∧ value e3 e2 e1 e0 = n.events.toNat ∧
    value t3 t2 t1 t0 = n.time % 4294967296) ∧
  (∀ b : Byte, characterBits b = [false, b.getLsbD 0, b.getLsbD 1, b.getLsbD 2, b.getLsbD 3, b.getLsbD 4, b.getLsbD 5,
    b.getLsbD 6, b.getLsbD 7, true]) ∧
  lineBits [] = [] ∧ ∀ (b : Byte) (l : List Byte), lineBits (b :: l) = characterBits b ++ lineBits l

/-! ### Pixels (chapters 5 and 6) -/

/-- Stages 0 to 4 (R104 to R109): the tile-local position, mirrored across the tile's width only; the formulas of the LINEAR and the MESH
mapping, the sample and the gain, each quotient as the number it lies at or above, by less than one; the fill colour outside the frame.
A LINEAR window's first and last columns are reached exactly and never left; a mesh node's position is taken exactly at its own pixel; a
position inside the frame reads no pixel outside it; and a gain of 128 leaves a sample on a camera pixel unchanged. -/
def Obligations.SamplesStayInsideTheFrame : Prop :=
  (∀ (t : Tile) (X Y : Nat), (tileLocal t X Y).2 = Y - t.y ∧
    (t.mirror = false → (tileLocal t X Y).1 = X - t.x) ∧ (t.mirror = true → (tileLocal t X Y).1 = t.w - 1 - (X - t.x))) ∧
  (∀ origin window size pos : Nat, 2 ≤ window → 2 ≤ size → pos < size →
    let u := linearCoord origin window size pos
    let exact : Int := 32 * pos * ((window : Int) - 1) + ((size : Int) - 1)
    let d : Int := 2 * ((size : Int) - 1)
    (u - 16 * origin) * d ≤ exact ∧ exact < (u - 16 * origin + 1) * d ∧
    linearCoord origin window size 0 = 16 * (origin : Int) ∧
    linearCoord origin window size (size - 1) = 16 * ((origin : Int) + window - 1) ∧
    16 * (origin : Int) ≤ u ∧ u ≤ 16 * ((origin : Int) + window - 1)) ∧
  (∀ (nodes : List (List Node)) (i j fx fy : Nat), fx < 32 → fy < 32 →
    let n00 := nodeAt nodes i j
    let n10 := nodeAt nodes (i + 1) j
    let n01 := nodeAt nodes i (j + 1)
    let n11 := nodeAt nodes (i + 1) (j + 1)
    let at_ := meshCoord nodes (32 * i + fx) (32 * j + fy)
    let mix := fun p q r s : Int =>
      (32 - (fx : Int)) * (32 - fy) * p + fx * (32 - (fy : Int)) * q + (32 - (fx : Int)) * fy * r + (fx : Int) * fy * s
    (1024 * at_.1 ≤ mix n00.u n10.u n01.u n11.u + 512 ∧ mix n00.u n10.u n01.u n11.u + 512 < 1024 * (at_.1 + 1)) ∧
    (1024 * at_.2 ≤ mix n00.v n10.v n01.v n11.v + 512 ∧ mix n00.v n10.v n01.v n11.v + 512 < 1024 * (at_.2 + 1)) ∧
    meshCoord nodes (32 * i) (32 * j) = (n00.u, n00.v)) ∧
  (∀ (rows : List (List Pixel)) (gain ui vi au av : Nat), au < 16 → av < 16 →
    let channel := fun c : Pixel → Byte =>
      let p := ((16 - au) * (16 - av) * (c (pixelAt rows ui vi)).toNat + au * (16 - av) * (c (pixelAt rows (ui + 1) vi)).toNat +
        (16 - au) * av * (c (pixelAt rows ui (vi + 1))).toNat + au * av * (c (pixelAt rows (ui + 1) (vi + 1))).toNat + 128)
        / 256
      min 255 ((p * gain + 64) / 128)
    let out := samplePixel rows gain (16 * ui + au) (16 * vi + av)
    out.r.toNat = channel Pixel.r ∧ out.g.toNat = channel Pixel.g ∧ out.b.toNat = channel Pixel.b) ∧
  (∀ (rows other : List (List Pixel)) (gain : Nat) (u v : Int) (W H : Nat),
    (outsideFrame u v W H = true ↔ u < 0 ∨ v < 0 ∨ 16 * ((W : Int) - 1) < u ∨ 16 * ((H : Int) - 1) < v) ∧
    (outsideFrame u v W H = false → (∀ x y : Nat, x < W → y < H → pixelAt rows x y = pixelAt other x y) →
      samplePixel rows gain u.toNat v.toNat = samplePixel other gain u.toNat v.toNat)) ∧
  (∀ (t : LatchedTile) (cam : LatchedCamera) (rows : List (List Pixel)) (X Y : Nat) (u v : Int),
    let at_ := tileLocal t.tile X Y
    ((∃ nodes, t.decision = .mesh nodes ∧ (u, v) = meshCoord nodes at_.1 at_.2) ∨
      (∃ sx sy sw sh, t.decision = .linear ∧ t.tile.mapping = .linear sx sy sw sh ∧
        u = linearCoord sx sw t.tile.w at_.1 ∧ v = linearCoord sy sh t.tile.h at_.2)) →
    (outsideFrame u v cam.width cam.height = true → cameraPixel t cam rows X Y = t.tile.fill) ∧
    (outsideFrame u v cam.width cam.height = false →
      cameraPixel t cam rows X Y = samplePixel rows cam.gain u.toNat v.toNat)) ∧
  (∀ (rows : List (List Pixel)) (x y : Nat), samplePixel rows 128 (16 * x) (16 * y) = pixelAt rows x y) ∧
  (∀ g p : Nat, g ≤ 255 → p ≤ 255 → applyGain g p ≤ 255 ∧ (128 ≤ g → p ≤ applyGain g p) ∧ (g ≤ 128 → applyGain g p ≤ p))

/-- The pixels a primitive covers (R88 to R92): none outside the canvas; a BOX its rectangle; a RECT the rectangle's pixels within b of
an edge; a GLYPH the scaled set cells of its mark, by the manual's table of the eight marks; a LINE its band about the nearest pixel to
the ideal line, halves away from zero, and a degenerate LINE the square of its band both ways. -/
def Obligations.PrimitivesCoverTheirPixels : Prop :=
  (∀ g a b : Nat, g < 8 → a < 16 → b < 16 →
    let marks : List (List Nat) := [
      [0x0001, 0x0002, 0x0004, 0x0F08, 0x7FFE, 0x4022, 0x43C2, 0x44A2,
       0x4522, 0x4622, 0x47C2, 0x4802, 0x7FFE, 0x2000, 0x4000, 0x8000],
      [0xFFFF, 0x7FFE, 0x3FFC, 0x1FF8, 0x0FF0, 0x07E0, 0x03C0, 0x0180,
       0x0180, 0x03C0, 0x07E0, 0x0FF0, 0x1FF8, 0x3FFC, 0x7FFE, 0xFFFF],
      [0x07E0, 0x1818, 0x2004, 0x4202, 0x4402, 0x8BC1, 0x8421, 0x8421,
       0x8421, 0x8421, 0x83C1, 0x4002, 0x4002, 0x2004, 0x1818, 0x07E0],
      [0x0180, 0x0240, 0x0240, 0x0420, 0x05A0, 0x0990, 0x0990, 0x1188,
       0x1188, 0x2184, 0x2004, 0x4182, 0x4182, 0x8001, 0x8001, 0xFFFF],
      [0xFFFF, 0x8001, 0x8001, 0x8661, 0x8661, 0x8661, 0x8661, 0x8661,
       0x8661, 0x8661, 0x8661, 0x8661, 0x8661, 0x8001, 0x8001, 0xFFFF],
      [0x0000, 0x0100, 0x0300, 0x0700, 0x0F00, 0x1F00, 0x3FF8, 0x7FF8,
       0x7FF8, 0x3FF8, 0x1F00, 0x0F00, 0x0700, 0x0300, 0x0100, 0x0000],
      [0x0000, 0x0080, 0x00C0, 0x00E0, 0x00F0, 0x00F8, 0x1FFC, 0x1FFE,
       0x1FFE, 0x1FFC, 0x00F8, 0x00F0, 0x00E0, 0x00C0, 0x0080, 0x0000],
      [0x0180, 0x03C0, 0x03C0, 0x0180, 0x07E0, 0x1FF8, 0x1FF8, 0x07E0,
       0x07E0, 0x07E0, 0x0660, 0x0660, 0x0660, 0x0660, 0x0660, 0x0660]]
    glyphCell g a b = ((marks.getD g []).getD b 0).testBit (15 - a)) ∧
  ∀ X Y : Int,
    (∀ g : Geometry, ¬(0 ≤ X ∧ X < 1280 ∧ 0 ≤ Y ∧ Y < 800) → Geometry.covers g X Y = false) ∧
    (0 ≤ X → X < 1280 → 0 ≤ Y → Y < 800 → ∀ x y : Int,
      (∀ w h : Nat, Geometry.covers (.box x y w h) X Y = true ↔ x ≤ X ∧ X < x + w ∧ y ≤ Y ∧ Y < y + h) ∧
      (∀ w h b : Nat, Geometry.covers (.rect x y w h b) X Y = true ↔
        (x ≤ X ∧ X < x + w ∧ y ≤ Y ∧ Y < y + h) ∧
        ¬(x + b ≤ X ∧ X < x + w - b ∧ y + b ≤ Y ∧ Y < y + h - b)) ∧
      (∀ g scale : Nat, 1 ≤ scale → (Geometry.covers (.glyph x y g scale) X Y = true ↔
        ∃ a b : Nat, a < 16 ∧ b < 16 ∧ glyphCell g a b = true ∧
          x + scale * a ≤ X ∧ X < x + scale * (a + 1) ∧ y + scale * b ≤ Y ∧ Y < y + scale * (b + 1))) ∧
      (∀ b : Nat, 1 ≤ b → (Geometry.covers (.line x y x y b) X Y = true ↔
        x - ((b - 1) / 2 : Nat) ≤ X ∧ X ≤ x + (b / 2 : Nat) ∧ y - ((b - 1) / 2 : Nat) ≤ Y ∧ Y ≤ y + (b / 2 : Nat))) ∧
      (∀ (x1 y1 : Int) (b : Nat), 1 ≤ b → |y1 - y| ≤ |x1 - x| → x1 ≠ x → ∃ centre : Int,
        |2 * ((centre - y) * (x1 - x) - (X - x) * (y1 - y))| ≤ |x1 - x| ∧
        (|2 * ((centre - y) * (x1 - x) - (X - x) * (y1 - y))| = |x1 - x| →
          |(X - x) * (y1 - y)| ≤ |(centre - y) * (x1 - x)|) ∧
        (Geometry.covers (.line x y x1 y1 b) X Y = true ↔
          (min x x1 ≤ X ∧ X ≤ max x x1) ∧ centre - ((b - 1) / 2 : Nat) ≤ Y ∧ Y ≤ centre + (b / 2 : Nat))) ∧
      (∀ (x1 y1 : Int) (b : Nat), 1 ≤ b → |x1 - x| < |y1 - y| → ∃ centre : Int,
        |2 * ((centre - x) * (y1 - y) - (Y - y) * (x1 - x))| ≤ |y1 - y| ∧
        (|2 * ((centre - x) * (y1 - y) - (Y - y) * (x1 - x))| = |y1 - y| →
          |(Y - y) * (x1 - x)| ≤ |(centre - x) * (y1 - y)|) ∧
        (Geometry.covers (.line x y x1 y1 b) X Y = true ↔
          (min y y1 ≤ Y ∧ Y ≤ max y y1) ∧ centre - ((b - 1) / 2 : Nat) ≤ X ∧ X ≤ centre + (b / 2 : Nat))))

/-- How a pixel comes about (R85, R101, R103, R107, R110, R111, R112, R115, R116, R121). A composed frame: nothing outside the active area;
black outside the tiles; in a tile the fill for a tile fault, a lost or absent picture, an empty claim or a withdrawn slot, and otherwise
the camera's pixel; then the visible overlays oldest first; then the tile's marks in its visible rectangle, in their order, places, scales
and colours: WARNING, CROSSED_CAMERA, the borders and corner glyphs of STALE, OBSCURED and DEGRADED. What the monitor shows: the composed frame, a
black frame, or a repeat frame, which is the held picture under a white border and the FROZEN glyph; in OFF the picture that the entry into
OFF left there, and entering OFF changes no pixel. Nothing without power is the model's choice (assumption 24). That a withdrawn slot or mesh acts from a pixel on is by the free number of pixels drawn (assumption 4), and that the picture is held
as a recipe and not as pixels is the model's choice (assumption 25). -/
def Obligations.PixelsAreDrawnByTheirTile : Prop :=
  (∀ (f : ComposedFrame) (X Y : Nat),
    (f.areaW ≤ X ∨ f.areaH ≤ Y → f.pixel X Y = none) ∧
    (X < f.areaW → Y < f.areaH →
      ((∀ t ∈ f.tiles, Tile.holds t.tile X Y = false) → f.pixel X Y = some (f.overlay X Y (rgb 0 0 0))) ∧
      (∀ (t : LatchedTile) (cam : LatchedCamera), t ∈ f.tiles → Tile.holds t.tile X Y = true →
        (∀ u ∈ f.tiles, u ≠ t → Tile.holds u.tile X Y = false) → f.cams[t.tile.camera] = some cam →
        let pos := Y * f.areaW + X
        let vx : Int := t.tile.x
        let vy : Int := t.tile.y
        let vw : Int := min ((t.tile.x : Int) + t.tile.w) f.areaW - t.tile.x
        let vh : Int := min ((t.tile.y : Int) + t.tile.h) f.areaH - t.tile.y
        let cell := fun (g : Nat) (scale x y : Int) => ∃ a b : Nat, a < 16 ∧ b < 16 ∧ glyphCell g a b = true ∧
          x + scale * a ≤ X ∧ X < x + scale * (a + 1) ∧ y + scale * b ≤ Y ∧ Y < y + scale * (b + 1)
        let ring := fun n : Int => X < vx + n ∨ vx + vw - n ≤ X ∨ Y < vy + n ∨ vy + vh - n ≤ Y
        let sc : Int := max 1 (min (min vw vh / 64) 4)
        let sk : Int := if 96 ≤ min vw vh then 2 else 1
        let centred := fun g : Nat => cell g sc (vx + (vw - 16 * sc) / 2) (vy + (vh - 16 * sc) / 2)
        let before := fun limit : Option Nat => ∀ p, limit = some p → pos < p
        let drawable := t.decision = .linear ∨ ∃ nodes, t.decision = .mesh nodes ∧ before f.meshWithdrawnAt
        let filled := f.overlay X Y t.tile.fill
        let amber := rgb 255 160 0
        let red := rgb 255 0 0
        (t.decision = .fault ∨ (∃ nodes, t.decision = .mesh nodes ∧ ¬before f.meshWithdrawnAt) →
          (centred 3 → f.pixel X Y = some (rgb 255 220 0)) ∧ (¬centred 3 → f.pixel X Y = some filled)) ∧
        (drawable → cam.picture = .absent ∨ cam.picture = .lost →
          (centred 0 → f.pixel X Y = some (rgb 255 255 255)) ∧ (¬centred 0 → f.pixel X Y = some filled)) ∧
        (drawable → cam.picture = .fresh ∨ cam.picture = .stale → ∃ under : Pixel,
          (∀ rows, cam.rows = some rows → before cam.withdrawnAt →
            under = f.overlay X Y (cameraPixel t cam rows X Y)) ∧
          (cam.rows = none ∨ ¬before cam.withdrawnAt → under = filled) ∧
          let outer := cam.picture = .stale ∧ f.slowVisible = true ∧ ring 4
          let inner := cam.clarity = .obscured ∧ ring 8 ∧ ¬ring 4
          let hourglass := cam.picture = .stale ∧ cell 1 sk (vx + 8) (vy + 8)
          let lens := cell 2 sk (vx + vw - 8 - 16 * sk) (vy + 8)
          (cam.clarity = .obscured → lens → f.pixel X Y = some red) ∧
          (cam.clarity = .degraded → lens → f.pixel X Y = some amber) ∧
          (¬((cam.clarity = .obscured ∨ cam.clarity = .degraded) ∧ lens) →
            (hourglass → f.pixel X Y = some amber) ∧
            (¬hourglass → inner → f.pixel X Y = some red) ∧
            (¬hourglass → ¬inner → outer → f.pixel X Y = some amber) ∧
            (¬hourglass → ¬inner → ¬outer → f.pixel X Y = some under)))))) ∧
  (∀ (f : ComposedFrame) (X Y : Nat) (out : Pixel),
    (f.overlays = [] → f.overlay X Y out = out) ∧
    ∀ (l : List Prim) (p : Prim), f.overlays = l ++ [p] →
      let below := ComposedFrame.overlay { f with overlays := l } X Y out
      let visible := (∀ n wanted, p.showWhen = .onSignal n wanted → f.signals[n] = wanted) ∧
        (p.blink = .slow → f.slowVisible = true) ∧ (p.blink = .fast → f.fastVisible = true)
      let drawn := visible ∧ Geometry.covers p.geometry X Y = true
      let mixed := fun c o : Byte => (p.alpha * c.toNat + (16 - p.alpha) * o.toNat + 8) / 16
      (¬drawn → f.overlay X Y out = below) ∧
      (drawn → p.alpha ≤ 16 →
        (f.overlay X Y out).r.toNat = mixed p.colour.r below.r ∧ (f.overlay X Y out).g.toNat = mixed p.colour.g below.g ∧
        (f.overlay X Y out).b.toNat = mixed p.colour.b below.b) ∧
      (drawn → p.alpha = 16 → f.overlay X Y out = p.colour) ∧ (drawn → p.alpha = 0 → f.overlay X Y out = below)) ∧
  (∀ (s : State) (X Y aw ah : Nat),
    (aw, ah) = (match s.disp.current with
      | .t0 => (800, 480) | .t1 => (1024, 600) | .t2 => (1280, 720) | .t3 => (1280, 800)) →
    let outside := aw ≤ X ∨ ah ≤ Y
    (s.powered = false → s.displayPixel X Y = none) ∧
    (s.powered = true → s.disp.sending = .nothing →
      (s.disp.shown = none → s.displayPixel X Y = none) ∧
      ∀ t : State, t.powered = true → t.screen = s.disp.shown → s.displayPixel X Y = t.displayPixel X Y) ∧
    (∀ t : State, t.powered = true → s.powered = true → t.disp.sending = .nothing → t.disp.shown = s.screen →
      t.displayPixel X Y = s.displayPixel X Y) ∧
    (s.powered = true → ∀ ctx, s.disp.sending = .composed → s.comp.context = some ctx →
      s.displayPixel X Y = ctx.frame.pixel X Y) ∧
    (s.powered = true → s.disp.sending = .black →
      (outside → s.displayPixel X Y = none) ∧ (¬outside → s.displayPixel X Y = some (rgb 0 0 0))) ∧
    (s.powered = true → s.disp.sending = .repeatFrame →
      let border := X < 6 ∨ aw ≤ X + 6 ∨ Y < 6 ∨ ah ≤ Y + 6
      let frozen := ∃ a b : Nat, a < 16 ∧ b < 16 ∧ glyphCell 4 a b = true ∧
        (aw - 32) / 2 + 2 * a ≤ X ∧ X < (aw - 32) / 2 + 2 * (a + 1) ∧ 12 + 2 * b ≤ Y ∧ Y < 12 + 2 * (b + 1)
      (outside → s.displayPixel X Y = none) ∧
      (¬outside → border ∨ frozen → s.displayPixel X Y = some (rgb 255 255 255)) ∧
      (¬outside → ¬border → ¬frozen →
        (s.disp.heldPicture = none → s.displayPixel X Y = some (rgb 0 0 0)) ∧
        (∀ f p, s.disp.heldPicture = some f → f.pixel X Y = some p → s.displayPixel X Y = some p))))

/-! ### What every step keeps -/

/-- The cameras stay in order (R2, R6, R9, R22, R24, R29, chapters 1.4.1 and 2.4.1): each ring keeps its three slots within R24, and each
port's enabled item, link state, word timer, open frame, deadlines and link power agree; a frame is open exactly while a slot is FILLING. -/
def Obligations.StepKeepsCamerasInOrder : Prop :=
  ∀ s t : State, s.ringsSafe → s.camsSafe → step s = .next t → t.ringsSafe ∧ t.camsSafe

/-- The stored data stay in order (R49, R60, R61, R63, R72, R73, R79): gains within their limits, the mesh store within its pool and with
its upload context, views of 1 to 4 tiles that do not overlap and overlay lists within their limits, and every reference to a defined
view; with the same of every profile held. -/
def Obligations.StepKeepsStoresInOrder : Prop :=
  ∀ s t : State,
    s.gainsSafe → s.prf.every Profile.gainsSafe → s.mesh.safe → s.prf.every Profile.meshesSafe →
    viewsSafe s.views → s.prf.every Profile.viewsSafe → s.refsSafe → s.prf.every Profile.refsSafe →
    step s = .next t →
    (t.gainsSafe ∧ t.prf.every Profile.gainsSafe) ∧ (t.mesh.safe ∧ t.prf.every Profile.meshesSafe) ∧
    (viewsSafe t.views ∧ t.prf.every Profile.viewsSafe) ∧ (t.refsSafe ∧ t.prf.every Profile.refsSafe)

/-- The selection and the signals stay in order (R127, R129, R130, R132, R142, R146, R147): the active choice is the highest-ranked claiming
item and the selected view its view, an entry is HELD exactly while its terms hold, every signal's record fits its source, and a debounce
timer runs exactly while the levels differ. -/
def Obligations.StepKeepsSelectionAndSignals : Prop :=
  ∀ s t : State, step s = .next t →
    (s.selectionSafe → t.selectionSafe) ∧ (s.sig.safe → t.sig.safe) ∧ (s.wiresSafe → t.wiresSafe)

/-- The output, the status unit and the control link stay in order (R95, R102, R116, R125, R156, R157, R160, R171, R172): timers run in
their own states only, frames are sent in every state but OFF, conditions are their owners' values, ATTN follows the latched and enabled
events, at most 16 errors are held, and the transmitter sends what it may. -/
def Obligations.StepKeepsOutputAndStatus : Prop :=
  ∀ s t : State, step s = .next t →
    (s.outputSafe → t.outputSafe) ∧ (s.statusSafe → t.statusSafe) ∧
    (s.sts.errors.length ≤ 16 → t.sts.errors.length ≤ 16) ∧ (s.link.safe → t.link.safe)

/-- The state after reset is in order in every respect that the steps keep. Where the manual gives no reset value, the reset state holds
the model's (assumption 7). -/
def Obligations.ResetStateIsInOrder : Prop :=
  let s := State.reset
  s.ringsSafe ∧ s.camsSafe ∧ s.gainsSafe ∧ s.prf.every Profile.gainsSafe ∧ s.mesh.safe ∧ s.prf.every Profile.meshesSafe ∧
  viewsSafe s.views ∧ s.prf.every Profile.viewsSafe ∧ s.refsSafe ∧ s.prf.every Profile.refsSafe ∧ s.selectionSafe ∧
  s.sig.safe ∧ s.wiresSafe ∧ s.outputSafe ∧ s.statusSafe ∧ s.sts.errors = [] ∧ s.link.safe
end

