-- ==== Sys2Proof/Laws/State.lean ====
section
/-! SUPPORT. Laws/State.lean: the small lemmas of the state's updates: one per field per update, true by unfolding, so that
no later proof unfolds a record update. -/

set_option Elab.async false

namespace Sys2Proof.Machine

/-! ### One camera replaced -/

@[simp] theorem State.setCam_powered (s : State) (i : Fin 4) (c : Cam) : (s.setCam i c).powered = s.powered := rfl
@[simp] theorem State.setCam_clock (s : State) (i : Fin 4) (c : Cam) : (s.setCam i c).clock = s.clock := rfl
@[simp] theorem State.setCam_mesh (s : State) (i : Fin 4) (c : Cam) : (s.setCam i c).mesh = s.mesh := rfl
@[simp] theorem State.setCam_views (s : State) (i : Fin 4) (c : Cam) : (s.setCam i c).views = s.views := rfl
@[simp] theorem State.setCam_sel (s : State) (i : Fin 4) (c : Cam) : (s.setCam i c).sel = s.sel := rfl
@[simp] theorem State.setCam_sig (s : State) (i : Fin 4) (c : Cam) : (s.setCam i c).sig = s.sig := rfl
@[simp] theorem State.setCam_comp (s : State) (i : Fin 4) (c : Cam) : (s.setCam i c).comp = s.comp := rfl
@[simp] theorem State.setCam_disp (s : State) (i : Fin 4) (c : Cam) : (s.setCam i c).disp = s.disp := rfl
@[simp] theorem State.setCam_sts (s : State) (i : Fin 4) (c : Cam) : (s.setCam i c).sts = s.sts := rfl
@[simp] theorem State.setCam_prf (s : State) (i : Fin 4) (c : Cam) : (s.setCam i c).prf = s.prf := rfl
@[simp] theorem State.setCam_link (s : State) (i : Fin 4) (c : Cam) : (s.setCam i c).link = s.link := rfl
@[simp] theorem State.setCam_freeCount (s : State) (i : Fin 4) (c : Cam) : (s.setCam i c).freeCount = s.freeCount := rfl
@[simp] theorem State.setCam_pending (s : State) (i : Fin 4) (c : Cam) : (s.setCam i c).pending = s.pending := rfl
@[simp] theorem State.setCam_cams (s : State) (i : Fin 4) (c : Cam) : (s.setCam i c).cams = s.cams.set i c := rfl

/-! ### One camera changed -/

@[simp] theorem State.onCam_powered (s : State) (i : Fin 4) (f : Cam → Cam) : (s.onCam i f).powered = s.powered := rfl
@[simp] theorem State.onCam_clock (s : State) (i : Fin 4) (f : Cam → Cam) : (s.onCam i f).clock = s.clock := rfl
@[simp] theorem State.onCam_mesh (s : State) (i : Fin 4) (f : Cam → Cam) : (s.onCam i f).mesh = s.mesh := rfl
@[simp] theorem State.onCam_views (s : State) (i : Fin 4) (f : Cam → Cam) : (s.onCam i f).views = s.views := rfl
@[simp] theorem State.onCam_sel (s : State) (i : Fin 4) (f : Cam → Cam) : (s.onCam i f).sel = s.sel := rfl
@[simp] theorem State.onCam_sig (s : State) (i : Fin 4) (f : Cam → Cam) : (s.onCam i f).sig = s.sig := rfl
@[simp] theorem State.onCam_comp (s : State) (i : Fin 4) (f : Cam → Cam) : (s.onCam i f).comp = s.comp := rfl
@[simp] theorem State.onCam_disp (s : State) (i : Fin 4) (f : Cam → Cam) : (s.onCam i f).disp = s.disp := rfl
@[simp] theorem State.onCam_sts (s : State) (i : Fin 4) (f : Cam → Cam) : (s.onCam i f).sts = s.sts := rfl
@[simp] theorem State.onCam_prf (s : State) (i : Fin 4) (f : Cam → Cam) : (s.onCam i f).prf = s.prf := rfl
@[simp] theorem State.onCam_link (s : State) (i : Fin 4) (f : Cam → Cam) : (s.onCam i f).link = s.link := rfl
@[simp] theorem State.onCam_freeCount (s : State) (i : Fin 4) (f : Cam → Cam) : (s.onCam i f).freeCount = s.freeCount := rfl
@[simp] theorem State.onCam_pending (s : State) (i : Fin 4) (f : Cam → Cam) : (s.onCam i f).pending = s.pending := rfl
@[simp] theorem State.onCam_cams (s : State) (i : Fin 4) (f : Cam → Cam) : (s.onCam i f).cams = s.cams.set i (f s.cams[i]) := rfl

/-! ### The clock brought forward -/

@[simp] theorem State.atInstant_powered (s : State) (t : Timer) : (s.atInstant t).powered = s.powered := rfl
@[simp] theorem State.atInstant_cams (s : State) (t : Timer) : (s.atInstant t).cams = s.cams := rfl
@[simp] theorem State.atInstant_mesh (s : State) (t : Timer) : (s.atInstant t).mesh = s.mesh := rfl
@[simp] theorem State.atInstant_views (s : State) (t : Timer) : (s.atInstant t).views = s.views := rfl
@[simp] theorem State.atInstant_sel (s : State) (t : Timer) : (s.atInstant t).sel = s.sel := rfl
@[simp] theorem State.atInstant_sig (s : State) (t : Timer) : (s.atInstant t).sig = s.sig := rfl
@[simp] theorem State.atInstant_comp (s : State) (t : Timer) : (s.atInstant t).comp = s.comp := rfl
@[simp] theorem State.atInstant_disp (s : State) (t : Timer) : (s.atInstant t).disp = s.disp := rfl
@[simp] theorem State.atInstant_sts (s : State) (t : Timer) : (s.atInstant t).sts = s.sts := rfl
@[simp] theorem State.atInstant_prf (s : State) (t : Timer) : (s.atInstant t).prf = s.prf := rfl
@[simp] theorem State.atInstant_link (s : State) (t : Timer) : (s.atInstant t).link = s.link := rfl
@[simp] theorem State.atInstant_freeCount (s : State) (t : Timer) : (s.atInstant t).freeCount = s.freeCount := rfl
@[simp] theorem State.atInstant_pending (s : State) (t : Timer) : (s.atInstant t).pending = s.pending := rfl
@[simp] theorem State.atInstant_clock (s : State) (t : Timer) : (s.atInstant t).clock = max s.clock (t.getD s.clock) := rfl

/-! ### A pulse -/

@[simp] theorem State.pulse_powered (s : State) (n : Nat) : (s.pulse n).powered = s.powered := rfl
@[simp] theorem State.pulse_clock (s : State) (n : Nat) : (s.pulse n).clock = s.clock := rfl
@[simp] theorem State.pulse_cams (s : State) (n : Nat) : (s.pulse n).cams = s.cams := rfl
@[simp] theorem State.pulse_mesh (s : State) (n : Nat) : (s.pulse n).mesh = s.mesh := rfl
@[simp] theorem State.pulse_views (s : State) (n : Nat) : (s.pulse n).views = s.views := rfl
@[simp] theorem State.pulse_sel (s : State) (n : Nat) : (s.pulse n).sel = s.sel := rfl
@[simp] theorem State.pulse_sig (s : State) (n : Nat) : (s.pulse n).sig = s.sig := rfl
@[simp] theorem State.pulse_comp (s : State) (n : Nat) : (s.pulse n).comp = s.comp := rfl
@[simp] theorem State.pulse_disp (s : State) (n : Nat) : (s.pulse n).disp = s.disp := rfl
@[simp] theorem State.pulse_prf (s : State) (n : Nat) : (s.pulse n).prf = s.prf := rfl
@[simp] theorem State.pulse_link (s : State) (n : Nat) : (s.pulse n).link = s.link := rfl
@[simp] theorem State.pulse_freeCount (s : State) (n : Nat) : (s.pulse n).freeCount = s.freeCount := rfl
@[simp] theorem State.pulse_pending (s : State) (n : Nat) : (s.pulse n).pending = s.pending := rfl
@[simp] theorem State.pulse_sts (s : State) (n : Nat) : (s.pulse n).sts = { s.sts with events := s.sts.events ||| itemBit n } := rfl

/-! ### An error queued -/

@[simp] theorem State.queueError_powered (s : State) (code : ErrorCode) (detail : Nat) : (s.queueError code detail).powered = s.powered := rfl
@[simp] theorem State.queueError_clock (s : State) (code : ErrorCode) (detail : Nat) : (s.queueError code detail).clock = s.clock := rfl
@[simp] theorem State.queueError_cams (s : State) (code : ErrorCode) (detail : Nat) : (s.queueError code detail).cams = s.cams := rfl
@[simp] theorem State.queueError_mesh (s : State) (code : ErrorCode) (detail : Nat) : (s.queueError code detail).mesh = s.mesh := rfl
@[simp] theorem State.queueError_views (s : State) (code : ErrorCode) (detail : Nat) : (s.queueError code detail).views = s.views := rfl
@[simp] theorem State.queueError_sel (s : State) (code : ErrorCode) (detail : Nat) : (s.queueError code detail).sel = s.sel := rfl
@[simp] theorem State.queueError_sig (s : State) (code : ErrorCode) (detail : Nat) : (s.queueError code detail).sig = s.sig := rfl
@[simp] theorem State.queueError_comp (s : State) (code : ErrorCode) (detail : Nat) : (s.queueError code detail).comp = s.comp := rfl
@[simp] theorem State.queueError_disp (s : State) (code : ErrorCode) (detail : Nat) : (s.queueError code detail).disp = s.disp := rfl
@[simp] theorem State.queueError_prf (s : State) (code : ErrorCode) (detail : Nat) : (s.queueError code detail).prf = s.prf := rfl
@[simp] theorem State.queueError_link (s : State) (code : ErrorCode) (detail : Nat) : (s.queueError code detail).link = s.link := rfl
@[simp] theorem State.queueError_freeCount (s : State) (code : ErrorCode) (detail : Nat) : (s.queueError code detail).freeCount = s.freeCount := rfl
@[simp] theorem State.queueError_pending (s : State) (code : ErrorCode) (detail : Nat) : (s.queueError code detail).pending = s.pending := rfl
@[simp] theorem State.queueError_sts (s : State) (code : ErrorCode) (detail : Nat) : (s.queueError code detail).sts = { s.sts with errors := pushError s.sts.errors ⟨code, detail, s.timeBase % 65536⟩ } := rfl

/-! ### A view replaced -/

@[simp] theorem State.putView_powered (s : State) (n : Fin 16) (v : Option Sys2Proof.View) : (s.putView n v).powered = s.powered := rfl
@[simp] theorem State.putView_clock (s : State) (n : Fin 16) (v : Option Sys2Proof.View) : (s.putView n v).clock = s.clock := rfl
@[simp] theorem State.putView_cams (s : State) (n : Fin 16) (v : Option Sys2Proof.View) : (s.putView n v).cams = s.cams := rfl
@[simp] theorem State.putView_mesh (s : State) (n : Fin 16) (v : Option Sys2Proof.View) : (s.putView n v).mesh = s.mesh := rfl
@[simp] theorem State.putView_sel (s : State) (n : Fin 16) (v : Option Sys2Proof.View) : (s.putView n v).sel = s.sel := rfl
@[simp] theorem State.putView_sig (s : State) (n : Fin 16) (v : Option Sys2Proof.View) : (s.putView n v).sig = s.sig := rfl
@[simp] theorem State.putView_comp (s : State) (n : Fin 16) (v : Option Sys2Proof.View) : (s.putView n v).comp = s.comp := rfl
@[simp] theorem State.putView_disp (s : State) (n : Fin 16) (v : Option Sys2Proof.View) : (s.putView n v).disp = s.disp := rfl
@[simp] theorem State.putView_sts (s : State) (n : Fin 16) (v : Option Sys2Proof.View) : (s.putView n v).sts = s.sts := rfl
@[simp] theorem State.putView_prf (s : State) (n : Fin 16) (v : Option Sys2Proof.View) : (s.putView n v).prf = s.prf := rfl
@[simp] theorem State.putView_link (s : State) (n : Fin 16) (v : Option Sys2Proof.View) : (s.putView n v).link = s.link := rfl
@[simp] theorem State.putView_freeCount (s : State) (n : Fin 16) (v : Option Sys2Proof.View) : (s.putView n v).freeCount = s.freeCount := rfl
@[simp] theorem State.putView_pending (s : State) (n : Fin 16) (v : Option Sys2Proof.View) : (s.putView n v).pending = s.pending := rfl
@[simp] theorem State.putView_views (s : State) (n : Fin 16) (v : Option Sys2Proof.View) : (s.putView n v).views = s.views.set n v := rfl

/-! ### A profile slot replaced -/

@[simp] theorem State.putProfile_powered (s : State) (n : Fin 4) (x : ProfileSlot) : (s.putProfile n x).powered = s.powered := rfl
@[simp] theorem State.putProfile_clock (s : State) (n : Fin 4) (x : ProfileSlot) : (s.putProfile n x).clock = s.clock := rfl
@[simp] theorem State.putProfile_cams (s : State) (n : Fin 4) (x : ProfileSlot) : (s.putProfile n x).cams = s.cams := rfl
@[simp] theorem State.putProfile_mesh (s : State) (n : Fin 4) (x : ProfileSlot) : (s.putProfile n x).mesh = s.mesh := rfl
@[simp] theorem State.putProfile_views (s : State) (n : Fin 4) (x : ProfileSlot) : (s.putProfile n x).views = s.views := rfl
@[simp] theorem State.putProfile_sel (s : State) (n : Fin 4) (x : ProfileSlot) : (s.putProfile n x).sel = s.sel := rfl
@[simp] theorem State.putProfile_sig (s : State) (n : Fin 4) (x : ProfileSlot) : (s.putProfile n x).sig = s.sig := rfl
@[simp] theorem State.putProfile_comp (s : State) (n : Fin 4) (x : ProfileSlot) : (s.putProfile n x).comp = s.comp := rfl
@[simp] theorem State.putProfile_disp (s : State) (n : Fin 4) (x : ProfileSlot) : (s.putProfile n x).disp = s.disp := rfl
@[simp] theorem State.putProfile_sts (s : State) (n : Fin 4) (x : ProfileSlot) : (s.putProfile n x).sts = s.sts := rfl
@[simp] theorem State.putProfile_link (s : State) (n : Fin 4) (x : ProfileSlot) : (s.putProfile n x).link = s.link := rfl
@[simp] theorem State.putProfile_freeCount (s : State) (n : Fin 4) (x : ProfileSlot) : (s.putProfile n x).freeCount = s.freeCount := rfl
@[simp] theorem State.putProfile_pending (s : State) (n : Fin 4) (x : ProfileSlot) : (s.putProfile n x).pending = s.pending := rfl
@[simp] theorem State.putProfile_prf (s : State) (n : Fin 4) (x : ProfileSlot) : (s.putProfile n x).prf = { s.prf with slots := s.prf.slots.set n x } := rfl

/-! ### The context discarded -/

@[simp] theorem State.discardContext_powered (s : State) : (s.discardContext).powered = s.powered := rfl
@[simp] theorem State.discardContext_clock (s : State) : (s.discardContext).clock = s.clock := rfl
@[simp] theorem State.discardContext_cams (s : State) : (s.discardContext).cams = s.cams := rfl
@[simp] theorem State.discardContext_mesh (s : State) : (s.discardContext).mesh = s.mesh := rfl
@[simp] theorem State.discardContext_views (s : State) : (s.discardContext).views = s.views := rfl
@[simp] theorem State.discardContext_sel (s : State) : (s.discardContext).sel = s.sel := rfl
@[simp] theorem State.discardContext_sig (s : State) : (s.discardContext).sig = s.sig := rfl
@[simp] theorem State.discardContext_disp (s : State) : (s.discardContext).disp = s.disp := rfl
@[simp] theorem State.discardContext_sts (s : State) : (s.discardContext).sts = s.sts := rfl
@[simp] theorem State.discardContext_prf (s : State) : (s.discardContext).prf = s.prf := rfl
@[simp] theorem State.discardContext_link (s : State) : (s.discardContext).link = s.link := rfl
@[simp] theorem State.discardContext_freeCount (s : State) : (s.discardContext).freeCount = s.freeCount := rfl
@[simp] theorem State.discardContext_pending (s : State) : (s.discardContext).pending = s.pending := rfl
@[simp] theorem State.discardContext_comp (s : State) : (s.discardContext).comp = { s.comp with context := none, tileFault := false } := rfl

/-! ### A reply owed -/

@[simp] theorem State.owe_powered (s : State) (type : Byte) (h : Header) (code : ResultCode) (data : ReplyData) : (s.owe type h code data).powered = s.powered := rfl
@[simp] theorem State.owe_clock (s : State) (type : Byte) (h : Header) (code : ResultCode) (data : ReplyData) : (s.owe type h code data).clock = s.clock := rfl
@[simp] theorem State.owe_cams (s : State) (type : Byte) (h : Header) (code : ResultCode) (data : ReplyData) : (s.owe type h code data).cams = s.cams := rfl
@[simp] theorem State.owe_mesh (s : State) (type : Byte) (h : Header) (code : ResultCode) (data : ReplyData) : (s.owe type h code data).mesh = s.mesh := rfl
@[simp] theorem State.owe_views (s : State) (type : Byte) (h : Header) (code : ResultCode) (data : ReplyData) : (s.owe type h code data).views = s.views := rfl
@[simp] theorem State.owe_sel (s : State) (type : Byte) (h : Header) (code : ResultCode) (data : ReplyData) : (s.owe type h code data).sel = s.sel := rfl
@[simp] theorem State.owe_sig (s : State) (type : Byte) (h : Header) (code : ResultCode) (data : ReplyData) : (s.owe type h code data).sig = s.sig := rfl
@[simp] theorem State.owe_comp (s : State) (type : Byte) (h : Header) (code : ResultCode) (data : ReplyData) : (s.owe type h code data).comp = s.comp := rfl
@[simp] theorem State.owe_disp (s : State) (type : Byte) (h : Header) (code : ResultCode) (data : ReplyData) : (s.owe type h code data).disp = s.disp := rfl
@[simp] theorem State.owe_sts (s : State) (type : Byte) (h : Header) (code : ResultCode) (data : ReplyData) : (s.owe type h code data).sts = s.sts := rfl
@[simp] theorem State.owe_prf (s : State) (type : Byte) (h : Header) (code : ResultCode) (data : ReplyData) : (s.owe type h code data).prf = s.prf := rfl
@[simp] theorem State.owe_freeCount (s : State) (type : Byte) (h : Header) (code : ResultCode) (data : ReplyData) : (s.owe type h code data).freeCount = s.freeCount := rfl
@[simp] theorem State.owe_pending (s : State) (type : Byte) (h : Header) (code : ResultCode) (data : ReplyData) : (s.owe type h code data).pending = s.pending := rfl
@[simp] theorem State.owe_link (s : State) (type : Byte) (h : Header) (code : ResultCode) (data : ReplyData) : (s.owe type h code data).link = { s.link with owed := some ⟨replyType type, h.tag, code, data, s.clock⟩ } := rfl

/-! ### The selector re-evaluates -/

@[simp] theorem State.reevaluate_powered (s : State) : (s.reevaluate).powered = s.powered := by unfold State.reevaluate; rfl
@[simp] theorem State.reevaluate_clock (s : State) : (s.reevaluate).clock = s.clock := by unfold State.reevaluate; rfl
@[simp] theorem State.reevaluate_cams (s : State) : (s.reevaluate).cams = s.cams := by unfold State.reevaluate; rfl
@[simp] theorem State.reevaluate_mesh (s : State) : (s.reevaluate).mesh = s.mesh := by unfold State.reevaluate; rfl
@[simp] theorem State.reevaluate_views (s : State) : (s.reevaluate).views = s.views := by unfold State.reevaluate; rfl
@[simp] theorem State.reevaluate_sig (s : State) : (s.reevaluate).sig = s.sig := by unfold State.reevaluate; rfl
@[simp] theorem State.reevaluate_comp (s : State) : (s.reevaluate).comp = s.comp := by unfold State.reevaluate; rfl
@[simp] theorem State.reevaluate_disp (s : State) : (s.reevaluate).disp = s.disp := by unfold State.reevaluate; rfl
@[simp] theorem State.reevaluate_sts (s : State) : (s.reevaluate).sts = s.sts := by unfold State.reevaluate; rfl
@[simp] theorem State.reevaluate_prf (s : State) : (s.reevaluate).prf = s.prf := by unfold State.reevaluate; rfl
@[simp] theorem State.reevaluate_link (s : State) : (s.reevaluate).link = s.link := by unfold State.reevaluate; rfl
@[simp] theorem State.reevaluate_freeCount (s : State) : (s.reevaluate).freeCount = s.freeCount := by unfold State.reevaluate; rfl
@[simp] theorem State.reevaluate_pending (s : State) : (s.reevaluate).pending = s.pending := by unfold State.reevaluate; rfl
@[simp] theorem State.reevaluate_sel (s : State) : (s.reevaluate).sel = (s.sel.judge s.sig.values s.timeBase s.clock).choose s.timeBase := by unfold State.reevaluate; rfl

/-! ### ATTN recomputed -/

@[simp] theorem State.recomputeAttn_powered (s : State) : (s.recomputeAttn).powered = s.powered := rfl
@[simp] theorem State.recomputeAttn_clock (s : State) : (s.recomputeAttn).clock = s.clock := rfl
@[simp] theorem State.recomputeAttn_cams (s : State) : (s.recomputeAttn).cams = s.cams := rfl
@[simp] theorem State.recomputeAttn_mesh (s : State) : (s.recomputeAttn).mesh = s.mesh := rfl
@[simp] theorem State.recomputeAttn_views (s : State) : (s.recomputeAttn).views = s.views := rfl
@[simp] theorem State.recomputeAttn_sel (s : State) : (s.recomputeAttn).sel = s.sel := rfl
@[simp] theorem State.recomputeAttn_sig (s : State) : (s.recomputeAttn).sig = s.sig := rfl
@[simp] theorem State.recomputeAttn_comp (s : State) : (s.recomputeAttn).comp = s.comp := rfl
@[simp] theorem State.recomputeAttn_disp (s : State) : (s.recomputeAttn).disp = s.disp := rfl
@[simp] theorem State.recomputeAttn_prf (s : State) : (s.recomputeAttn).prf = s.prf := rfl
@[simp] theorem State.recomputeAttn_freeCount (s : State) : (s.recomputeAttn).freeCount = s.freeCount := rfl
@[simp] theorem State.recomputeAttn_pending (s : State) : (s.recomputeAttn).pending = s.pending := rfl
@[simp] theorem State.recomputeAttn_sts (s : State) : (s.recomputeAttn).sts = { s.sts with attn := attnOf s.sts.events s.sts.enable } := rfl
@[simp] theorem State.recomputeAttn_link (s : State) : (s.recomputeAttn).link = { s.link with noticePending := s.link.noticePending || (attnOf s.sts.events s.sts.enable && !s.sts.attn) } := rfl

/-! ### The end of an event -/

@[simp] theorem State.settle_powered (s : State) : (s.settle).powered = s.powered := State.recomputeAttn_powered _
@[simp] theorem State.settle_clock (s : State) : (s.settle).clock = s.clock := State.recomputeAttn_clock _
@[simp] theorem State.settle_cams (s : State) : (s.settle).cams = s.cams := State.recomputeAttn_cams _
@[simp] theorem State.settle_mesh (s : State) : (s.settle).mesh = s.mesh := State.recomputeAttn_mesh _
@[simp] theorem State.settle_views (s : State) : (s.settle).views = s.views := State.recomputeAttn_views _
@[simp] theorem State.settle_sel (s : State) : (s.settle).sel = s.sel := State.recomputeAttn_sel _
@[simp] theorem State.settle_sig (s : State) : (s.settle).sig = s.sig := State.recomputeAttn_sig _
@[simp] theorem State.settle_comp (s : State) : (s.settle).comp = s.comp := State.recomputeAttn_comp _
@[simp] theorem State.settle_disp (s : State) : (s.settle).disp = s.disp := State.recomputeAttn_disp _
@[simp] theorem State.settle_prf (s : State) : (s.settle).prf = s.prf := State.recomputeAttn_prf _
@[simp] theorem State.settle_freeCount (s : State) : (s.settle).freeCount = s.freeCount := State.recomputeAttn_freeCount _
@[simp] theorem State.settle_pending (s : State) : (s.settle).pending = s.pending := State.recomputeAttn_pending _

/-! ### A command put in front -/

@[simp] theorem State.pushFront_powered (s : State) (c : Instr) : (s.pushFront c).powered = s.powered := rfl
@[simp] theorem State.pushFront_clock (s : State) (c : Instr) : (s.pushFront c).clock = s.clock := rfl
@[simp] theorem State.pushFront_cams (s : State) (c : Instr) : (s.pushFront c).cams = s.cams := rfl
@[simp] theorem State.pushFront_mesh (s : State) (c : Instr) : (s.pushFront c).mesh = s.mesh := rfl
@[simp] theorem State.pushFront_views (s : State) (c : Instr) : (s.pushFront c).views = s.views := rfl
@[simp] theorem State.pushFront_sel (s : State) (c : Instr) : (s.pushFront c).sel = s.sel := rfl
@[simp] theorem State.pushFront_sig (s : State) (c : Instr) : (s.pushFront c).sig = s.sig := rfl
@[simp] theorem State.pushFront_comp (s : State) (c : Instr) : (s.pushFront c).comp = s.comp := rfl
@[simp] theorem State.pushFront_disp (s : State) (c : Instr) : (s.pushFront c).disp = s.disp := rfl
@[simp] theorem State.pushFront_sts (s : State) (c : Instr) : (s.pushFront c).sts = s.sts := rfl
@[simp] theorem State.pushFront_prf (s : State) (c : Instr) : (s.pushFront c).prf = s.prf := rfl
@[simp] theorem State.pushFront_link (s : State) (c : Instr) : (s.pushFront c).link = s.link := rfl
@[simp] theorem State.pushFront_freeCount (s : State) (c : Instr) : (s.pushFront c).freeCount = s.freeCount := rfl
@[simp] theorem State.pushFront_pending (s : State) (c : Instr) : (s.pushFront c).pending = c :: s.pending := rfl

/-! ### The cameras after one is replaced -/

@[simp] theorem State.setCam_same (s : State) (i : Fin 4) (c : Cam) : (s.setCam i c).cams[i] = c := by
  simp [State.setCam]

theorem State.setCam_other (s : State) (i j : Fin 4) (c : Cam) (h : i ≠ j) : (s.setCam i c).cams[j] = s.cams[j] := by
  have : i.val ≠ j.val := fun e => h (Fin.ext e)
  simp [State.setCam, Vector.getElem_set_ne, this]

/-- Each camera of a state with one camera replaced: the new one, or the one it was. -/
theorem State.setCam_cases (s : State) (i j : Fin 4) (c : Cam) :
    (s.setCam i c).cams[j] = if i = j then c else s.cams[j] := by
  by_cases h : i = j
  · subst h; simp
  · simp only [h, if_false]; exact s.setCam_other i j c h

/-- The time base is the clock's. -/
theorem State.timeBase_of_clock (s t : State) (h : s.clock = t.clock) : s.timeBase = t.timeBase := by
  simp [State.timeBase, h]

end Sys2Proof.Machine
end

