-- ==== Sys2Proof/Laws/Selection.lean ====
section
/-! SUPPORT. Laws/Selection.lean: what a re-evaluation leaves (R142, R146, R147). -/

set_option Elab.async false

namespace Sys2Proof.Machine

/-- The choice depends on the entries and the override alone. -/
@[simp] theorem choose_choice (z : Selector) (timeBase : Nat) : (z.choose timeBase).choice = z.choice := rfl

@[simp] theorem choose_active (z : Selector) (timeBase : Nat) : (z.choose timeBase).active = z.choice := rfl

@[simp] theorem choose_selected (z : Selector) (timeBase : Nat) :
    (z.choose timeBase).selected = z.viewOf z.choice := rfl

@[simp] theorem choose_entries (z : Selector) (timeBase : Nat) : (z.choose timeBase).entries = z.entries := rfl

@[simp] theorem choose_viewOf (z : Selector) (timeBase : Nat) (c : Choice) :
    (z.choose timeBase).viewOf c = z.viewOf c := rfl

/-- The activation time is kept while the same item stays the active choice (R146, R147 step 3). -/
theorem choose_activation (z : Selector) (timeBase : Nat) :
    (z.choose timeBase).activation = if z.choice = z.active then z.activation else timeBase := rfl

/-- Judging an entry leaves it HELD exactly when its terms hold (R142, R143). -/
theorem judge_held (e : Entry) (values : Vector Bool 16) (active : Bool) (elapsed now : Nat) :
    (e.judge values active elapsed now).state = .held ↔ EntryConfig.termsHold e.config values = true := by
  unfold Entry.judge
  split
  · simp [*]
  · rename_i h
    simp only [h]
    constructor
    · intro hs
      split at hs
      · cases hs
      · split at hs
        · cases hs
        · simp [releasing] at hs
      · simp [releasing] at hs
    · intro hf; cases hf

@[simp] theorem judge_config (e : Entry) (values : Vector Bool 16) (active : Bool) (elapsed now : Nat) :
    (e.judge values active elapsed now).config = e.config := rfl

/-- The entries after a judgement, one by one. -/
theorem selector_judge_entry (z : Selector) (values : Vector Bool 16) (timeBase now : Nat) (i : Fin 16) :
    (z.judge values timeBase now).entries[i] =
      (z.entries[i]).map fun e =>
        e.judge values (decide (z.active = .entry i)) (elapsedMs timeBase z.activation) now := by
  simp [Selector.judge]

/-- After a judgement every entry is HELD exactly when its terms hold (R142). -/
theorem selector_judge_held (z : Selector) (values : Vector Bool 16) (timeBase now : Nat) (i : Fin 16) (e : Entry)
    (h : (z.judge values timeBase now).entries[i] = some e) :
    e.state = .held ↔ EntryConfig.termsHold e.config values = true := by
  rw [selector_judge_entry, Option.map_eq_some_iff] at h
  obtain ⟨e', _, rfl⟩ := h
  rw [judge_config]
  exact judge_held e' values _ _ _

/-- A re-evaluation leaves the selection in order, whatever the state before it. -/
theorem reevaluate_selectionSafe (s : State) : s.reevaluate.selectionSafe := by
  unfold State.selectionSafe
  simp only [State.reevaluate_sel, State.reevaluate_sig, choose_active, choose_choice, choose_selected, choose_viewOf,
    choose_entries, true_and]
  exact fun i e he => selector_judge_held s.sel s.sig.values s.timeBase s.clock i e he

end Sys2Proof.Machine
end

