-- ==== Sys2Proof/Laws/Composer.lean ====
section
/-! SUPPORT. Laws/Composer.lean: what the operations that reach into the composer's context change (R32, R71, R79, R101), and
what a flush, a wake and the hand-off of an event's changes leave alone. Later proofs cite these and do not unfold the operations. -/

set_option Elab.async false

namespace Sys2Proof.Machine

/-! ### The drawing goes on -/

@[simp] theorem State.advanceDrawing_powered (s : State) : (s.advanceDrawing).powered = s.powered := by
  unfold State.advanceDrawing; split <;> rfl
@[simp] theorem State.advanceDrawing_clock (s : State) : (s.advanceDrawing).clock = s.clock := by
  unfold State.advanceDrawing; split <;> rfl
@[simp] theorem State.advanceDrawing_cams (s : State) : (s.advanceDrawing).cams = s.cams := by
  unfold State.advanceDrawing; split <;> rfl
@[simp] theorem State.advanceDrawing_mesh (s : State) : (s.advanceDrawing).mesh = s.mesh := by
  unfold State.advanceDrawing; split <;> rfl
@[simp] theorem State.advanceDrawing_views (s : State) : (s.advanceDrawing).views = s.views := by
  unfold State.advanceDrawing; split <;> rfl
@[simp] theorem State.advanceDrawing_sel (s : State) : (s.advanceDrawing).sel = s.sel := by
  unfold State.advanceDrawing; split <;> rfl
@[simp] theorem State.advanceDrawing_sig (s : State) : (s.advanceDrawing).sig = s.sig := by
  unfold State.advanceDrawing; split <;> rfl
@[simp] theorem State.advanceDrawing_disp (s : State) : (s.advanceDrawing).disp = s.disp := by
  unfold State.advanceDrawing; split <;> rfl
@[simp] theorem State.advanceDrawing_sts (s : State) : (s.advanceDrawing).sts = s.sts := by
  unfold State.advanceDrawing; split <;> rfl
@[simp] theorem State.advanceDrawing_prf (s : State) : (s.advanceDrawing).prf = s.prf := by
  unfold State.advanceDrawing; split <;> rfl
@[simp] theorem State.advanceDrawing_link (s : State) : (s.advanceDrawing).link = s.link := by
  unfold State.advanceDrawing; split <;> rfl
@[simp] theorem State.advanceDrawing_pending (s : State) : (s.advanceDrawing).pending = s.pending := by
  unfold State.advanceDrawing; split <;> rfl

/-- Drawing on changes nothing of the composer but the number of pixels known to be drawn. -/
theorem advanceDrawing_comp (s : State) :
    s.advanceDrawing.comp = { s.comp with context := s.advanceDrawing.comp.context } := by
  unfold State.advanceDrawing; split <;> rfl

/-- What drawing on does to a context. -/
theorem advanceDrawing_context (s : State) {ctx : Context} (h : s.comp.context = some ctx) :
    ∃ n, ctx.drawn ≤ n ∧ s.advanceDrawing.comp.context = some { ctx with drawn := n } := by
  refine ⟨_, le_max_left _ (min (Config.drawnPixels s.freeCount) (ctx.frame.areaW * ctx.frame.areaH)), ?_⟩
  simp [State.advanceDrawing, h]

theorem advanceDrawing_none (s : State) (h : s.comp.context = none) : s.advanceDrawing = s := by
  simp [State.advanceDrawing, h]

/-! ### Withdrawals -/

@[simp] theorem State.withdrawSlot_powered (s : State) (i : Fin 4) : (s.withdrawSlot i).powered = s.powered := by
  unfold State.withdrawSlot; split <;> [rfl; (split <;> rfl)]
@[simp] theorem State.withdrawSlot_clock (s : State) (i : Fin 4) : (s.withdrawSlot i).clock = s.clock := by
  unfold State.withdrawSlot; split <;> [rfl; (split <;> rfl)]
@[simp] theorem State.withdrawSlot_cams (s : State) (i : Fin 4) : (s.withdrawSlot i).cams = s.cams := by
  unfold State.withdrawSlot; split <;> [rfl; (split <;> rfl)]
@[simp] theorem State.withdrawSlot_mesh (s : State) (i : Fin 4) : (s.withdrawSlot i).mesh = s.mesh := by
  unfold State.withdrawSlot; split <;> [rfl; (split <;> rfl)]
@[simp] theorem State.withdrawSlot_views (s : State) (i : Fin 4) : (s.withdrawSlot i).views = s.views := by
  unfold State.withdrawSlot; split <;> [rfl; (split <;> rfl)]
@[simp] theorem State.withdrawSlot_sel (s : State) (i : Fin 4) : (s.withdrawSlot i).sel = s.sel := by
  unfold State.withdrawSlot; split <;> [rfl; (split <;> rfl)]
@[simp] theorem State.withdrawSlot_sig (s : State) (i : Fin 4) : (s.withdrawSlot i).sig = s.sig := by
  unfold State.withdrawSlot; split <;> [rfl; (split <;> rfl)]
@[simp] theorem State.withdrawSlot_disp (s : State) (i : Fin 4) : (s.withdrawSlot i).disp = s.disp := by
  unfold State.withdrawSlot; split <;> [rfl; (split <;> rfl)]
@[simp] theorem State.withdrawSlot_sts (s : State) (i : Fin 4) : (s.withdrawSlot i).sts = s.sts := by
  unfold State.withdrawSlot; split <;> [rfl; (split <;> rfl)]
@[simp] theorem State.withdrawSlot_prf (s : State) (i : Fin 4) : (s.withdrawSlot i).prf = s.prf := by
  unfold State.withdrawSlot; split <;> [rfl; (split <;> rfl)]
@[simp] theorem State.withdrawSlot_link (s : State) (i : Fin 4) : (s.withdrawSlot i).link = s.link := by
  unfold State.withdrawSlot; split <;> [rfl; (split <;> rfl)]
@[simp] theorem State.withdrawSlot_freeCount (s : State) (i : Fin 4) : (s.withdrawSlot i).freeCount = s.freeCount := by
  unfold State.withdrawSlot; split <;> [rfl; (split <;> rfl)]
@[simp] theorem State.withdrawSlot_pending (s : State) (i : Fin 4) : (s.withdrawSlot i).pending = s.pending := by
  unfold State.withdrawSlot; split <;> [rfl; (split <;> rfl)]
@[simp] theorem State.withdrawMeshes_powered (s : State) : (s.withdrawMeshes).powered = s.powered := by
  unfold State.withdrawMeshes; split <;> rfl
@[simp] theorem State.withdrawMeshes_clock (s : State) : (s.withdrawMeshes).clock = s.clock := by
  unfold State.withdrawMeshes; split <;> rfl
@[simp] theorem State.withdrawMeshes_cams (s : State) : (s.withdrawMeshes).cams = s.cams := by
  unfold State.withdrawMeshes; split <;> rfl
@[simp] theorem State.withdrawMeshes_mesh (s : State) : (s.withdrawMeshes).mesh = s.mesh := by
  unfold State.withdrawMeshes; split <;> rfl
@[simp] theorem State.withdrawMeshes_views (s : State) : (s.withdrawMeshes).views = s.views := by
  unfold State.withdrawMeshes; split <;> rfl
@[simp] theorem State.withdrawMeshes_sel (s : State) : (s.withdrawMeshes).sel = s.sel := by
  unfold State.withdrawMeshes; split <;> rfl
@[simp] theorem State.withdrawMeshes_sig (s : State) : (s.withdrawMeshes).sig = s.sig := by
  unfold State.withdrawMeshes; split <;> rfl
@[simp] theorem State.withdrawMeshes_disp (s : State) : (s.withdrawMeshes).disp = s.disp := by
  unfold State.withdrawMeshes; split <;> rfl
@[simp] theorem State.withdrawMeshes_sts (s : State) : (s.withdrawMeshes).sts = s.sts := by
  unfold State.withdrawMeshes; split <;> rfl
@[simp] theorem State.withdrawMeshes_prf (s : State) : (s.withdrawMeshes).prf = s.prf := by
  unfold State.withdrawMeshes; split <;> rfl
@[simp] theorem State.withdrawMeshes_link (s : State) : (s.withdrawMeshes).link = s.link := by
  unfold State.withdrawMeshes; split <;> rfl
@[simp] theorem State.withdrawMeshes_freeCount (s : State) : (s.withdrawMeshes).freeCount = s.freeCount := by
  unfold State.withdrawMeshes; split <;> rfl
@[simp] theorem State.withdrawMeshes_pending (s : State) : (s.withdrawMeshes).pending = s.pending := by
  unfold State.withdrawMeshes; split <;> rfl

/-- A withdrawal of a slot changes nothing of the composer but its context. -/
theorem withdrawSlot_comp (s : State) (i : Fin 4) :
    (s.withdrawSlot i).comp = { s.comp with context := (s.withdrawSlot i).comp.context } := by
  unfold State.withdrawSlot; split <;> [rfl; (split <;> rfl)]

/-- What a withdrawal of camera `i`'s slot does to a context (R32, R101). -/
theorem withdrawSlot_context (s : State) (i : Fin 4) {ctx : Context} (h : s.comp.context = some ctx) :
    (s.withdrawSlot i).comp.context = some (if ctx.slotRefs[i].isSome then { ctx with
      slotRefs := ctx.slotRefs.set i none
      frame := { ctx.frame with
        cams := ctx.frame.cams.set i (ctx.frame.cams[i].map fun c => c.withdraw ctx.drawn) } } else ctx) := by
  unfold State.withdrawSlot
  simp only [h]
  split <;> simp_all

theorem withdrawSlot_none (s : State) (i : Fin 4) (h : s.comp.context = none) : s.withdrawSlot i = s := by
  simp [State.withdrawSlot, h]

/-- A withdrawal of the meshes changes nothing of the composer but its context (R71, R79). -/
theorem withdrawMeshes_comp (s : State) :
    s.withdrawMeshes.comp = { s.comp with context := s.withdrawMeshes.comp.context } := by
  unfold State.withdrawMeshes; split <;> rfl

/-- After a withdrawal of the meshes there is no latched view (R79). -/
theorem withdrawMeshes_latchedView (s : State) : s.withdrawMeshes.comp.latchedView = none := by
  cases h : s.comp.context <;> simp [State.withdrawMeshes, Composer.latchedView, h]

/-- A withdrawn slot leaves the latched view as it is. -/
theorem withdrawSlot_latchedView (s : State) (i : Fin 4) : (s.withdrawSlot i).comp.latchedView = s.comp.latchedView := by
  cases h : s.comp.context with
  | none => rw [withdrawSlot_none s i h]
  | some ctx =>
    simp only [Composer.latchedView, withdrawSlot_context s i h, h]
    split <;> rfl

/-- Drawing on leaves the latched view as it is. -/
theorem advanceDrawing_latchedView (s : State) : s.advanceDrawing.comp.latchedView = s.comp.latchedView := by
  cases h : s.comp.context with
  | none => rw [advanceDrawing_none s h]
  | some ctx =>
    obtain ⟨n, -, hn⟩ := advanceDrawing_context s h
    simp [Composer.latchedView, hn, h]

/-- The composer holds a context after a withdrawal exactly when it held one. -/
theorem withdrawSlot_isSome (s : State) (i : Fin 4) : (s.withdrawSlot i).comp.context.isSome = s.comp.context.isSome := by
  cases h : s.comp.context with
  | none => rw [withdrawSlot_none s i h, h]
  | some ctx => rw [withdrawSlot_context s i h]; rfl

theorem advanceDrawing_isSome (s : State) : s.advanceDrawing.comp.context.isSome = s.comp.context.isSome := by
  cases h : s.comp.context with
  | none => rw [advanceDrawing_none s h, h]
  | some ctx => obtain ⟨n, -, hn⟩ := advanceDrawing_context s h; rw [hn]; rfl

theorem withdrawMeshes_isSome (s : State) : s.withdrawMeshes.comp.context.isSome = s.comp.context.isSome := by
  unfold State.withdrawMeshes; split <;> simp_all

/-! ### A flush of one camera -/

@[simp] theorem State.flushCam_powered (s : State) (i : Fin 4) (c : Cam) : (s.flushCam i c).powered = s.powered := by
  simp [State.flushCam]
@[simp] theorem State.flushCam_clock (s : State) (i : Fin 4) (c : Cam) : (s.flushCam i c).clock = s.clock := by
  simp [State.flushCam]
@[simp] theorem State.flushCam_mesh (s : State) (i : Fin 4) (c : Cam) : (s.flushCam i c).mesh = s.mesh := by
  simp [State.flushCam]
@[simp] theorem State.flushCam_views (s : State) (i : Fin 4) (c : Cam) : (s.flushCam i c).views = s.views := by
  simp [State.flushCam]
@[simp] theorem State.flushCam_sel (s : State) (i : Fin 4) (c : Cam) : (s.flushCam i c).sel = s.sel := by
  simp [State.flushCam]
@[simp] theorem State.flushCam_sig (s : State) (i : Fin 4) (c : Cam) : (s.flushCam i c).sig = s.sig := by
  simp [State.flushCam]
@[simp] theorem State.flushCam_disp (s : State) (i : Fin 4) (c : Cam) : (s.flushCam i c).disp = s.disp := by
  simp [State.flushCam]
@[simp] theorem State.flushCam_sts (s : State) (i : Fin 4) (c : Cam) : (s.flushCam i c).sts = s.sts := by
  simp [State.flushCam]
@[simp] theorem State.flushCam_prf (s : State) (i : Fin 4) (c : Cam) : (s.flushCam i c).prf = s.prf := by
  simp [State.flushCam]
@[simp] theorem State.flushCam_link (s : State) (i : Fin 4) (c : Cam) : (s.flushCam i c).link = s.link := by
  simp [State.flushCam]
@[simp] theorem State.flushCam_pending (s : State) (i : Fin 4) (c : Cam) : (s.flushCam i c).pending = s.pending := by
  simp [State.flushCam]

@[simp] theorem State.flushCam_cams (s : State) (i : Fin 4) (c : Cam) : (s.flushCam i c).cams = s.cams.set i c := by
  simp [State.flushCam]

/-- A flush changes nothing of the composer but its context. -/
theorem flushCam_comp (s : State) (i : Fin 4) (c : Cam) :
    (s.flushCam i c).comp = { s.comp with context := (s.flushCam i c).comp.context } := by
  simp only [State.flushCam, State.setCam_comp]
  rw [withdrawSlot_comp, advanceDrawing_comp]

theorem flushCam_latchedView (s : State) (i : Fin 4) (c : Cam) :
    (s.flushCam i c).comp.latchedView = s.comp.latchedView := by
  simp only [State.flushCam, State.setCam_comp, withdrawSlot_latchedView, advanceDrawing_latchedView]

theorem flushCam_isSome (s : State) (i : Fin 4) (c : Cam) :
    (s.flushCam i c).comp.context.isSome = s.comp.context.isSome := by
  simp only [State.flushCam, State.setCam_comp, withdrawSlot_isSome, advanceDrawing_isSome]

/-! ### A wake and the hand-off of changes -/

@[simp] theorem State.wake_powered (s : State) : (s.wake).powered = s.powered := by
  unfold State.wake; split <;> rfl
@[simp] theorem State.wake_clock (s : State) : (s.wake).clock = s.clock := by
  unfold State.wake; split <;> rfl
@[simp] theorem State.wake_mesh (s : State) : (s.wake).mesh = s.mesh := by
  unfold State.wake; split <;> rfl
@[simp] theorem State.wake_views (s : State) : (s.wake).views = s.views := by
  unfold State.wake; split <;> rfl
@[simp] theorem State.wake_sel (s : State) : (s.wake).sel = s.sel := by
  unfold State.wake; split <;> rfl
@[simp] theorem State.wake_comp (s : State) : (s.wake).comp = s.comp := by
  unfold State.wake; split <;> rfl
@[simp] theorem State.wake_prf (s : State) : (s.wake).prf = s.prf := by
  unfold State.wake; split <;> rfl
@[simp] theorem State.wake_link (s : State) : (s.wake).link = s.link := by
  unfold State.wake; split <;> rfl
@[simp] theorem State.wake_freeCount (s : State) : (s.wake).freeCount = s.freeCount := by
  unfold State.wake; split <;> rfl
@[simp] theorem State.wake_pending (s : State) : (s.wake).pending = s.pending := by
  unfold State.wake; split <;> rfl
@[simp] theorem State.handOn_powered (s : State) (u : SignalUnit) : (s.handOn u).powered = s.powered := by
  unfold State.handOn; dsimp only; split <;> split <;> simp
@[simp] theorem State.handOn_clock (s : State) (u : SignalUnit) : (s.handOn u).clock = s.clock := by
  unfold State.handOn; dsimp only; split <;> split <;> simp
@[simp] theorem State.handOn_cams (s : State) (u : SignalUnit) : (s.handOn u).cams = s.cams := by
  unfold State.handOn; dsimp only; split <;> split <;> simp
@[simp] theorem State.handOn_mesh (s : State) (u : SignalUnit) : (s.handOn u).mesh = s.mesh := by
  unfold State.handOn; dsimp only; split <;> split <;> simp
@[simp] theorem State.handOn_views (s : State) (u : SignalUnit) : (s.handOn u).views = s.views := by
  unfold State.handOn; dsimp only; split <;> split <;> simp
@[simp] theorem State.handOn_sig (s : State) (u : SignalUnit) : (s.handOn u).sig = s.sig := by
  unfold State.handOn; dsimp only; split <;> split <;> simp
@[simp] theorem State.handOn_comp (s : State) (u : SignalUnit) : (s.handOn u).comp = s.comp := by
  unfold State.handOn; dsimp only; split <;> split <;> simp
@[simp] theorem State.handOn_sts (s : State) (u : SignalUnit) : (s.handOn u).sts = s.sts := by
  unfold State.handOn; dsimp only; split <;> split <;> simp
@[simp] theorem State.handOn_prf (s : State) (u : SignalUnit) : (s.handOn u).prf = s.prf := by
  unfold State.handOn; dsimp only; split <;> split <;> simp
@[simp] theorem State.handOn_link (s : State) (u : SignalUnit) : (s.handOn u).link = s.link := by
  unfold State.handOn; dsimp only; split <;> split <;> simp
@[simp] theorem State.handOn_freeCount (s : State) (u : SignalUnit) : (s.handOn u).freeCount = s.freeCount := by
  unfold State.handOn; dsimp only; split <;> split <;> simp
@[simp] theorem State.handOn_pending (s : State) (u : SignalUnit) : (s.handOn u).pending = s.pending := by
  unfold State.handOn; dsimp only; split <;> split <;> simp
@[simp] theorem State.signalEvent_powered (s : State) (u : SignalUnit) : (s.signalEvent u).powered = s.powered := by
  unfold State.signalEvent; dsimp only; split <;> simp
@[simp] theorem State.signalEvent_clock (s : State) (u : SignalUnit) : (s.signalEvent u).clock = s.clock := by
  unfold State.signalEvent; dsimp only; split <;> simp
@[simp] theorem State.signalEvent_mesh (s : State) (u : SignalUnit) : (s.signalEvent u).mesh = s.mesh := by
  unfold State.signalEvent; dsimp only; split <;> simp
@[simp] theorem State.signalEvent_views (s : State) (u : SignalUnit) : (s.signalEvent u).views = s.views := by
  unfold State.signalEvent; dsimp only; split <;> simp
@[simp] theorem State.signalEvent_comp (s : State) (u : SignalUnit) : (s.signalEvent u).comp = s.comp := by
  unfold State.signalEvent; dsimp only; split <;> simp
@[simp] theorem State.signalEvent_prf (s : State) (u : SignalUnit) : (s.signalEvent u).prf = s.prf := by
  unfold State.signalEvent; dsimp only; split <;> simp
@[simp] theorem State.signalEvent_link (s : State) (u : SignalUnit) : (s.signalEvent u).link = s.link := by
  unfold State.signalEvent; dsimp only; split <;> simp
@[simp] theorem State.signalEvent_freeCount (s : State) (u : SignalUnit) : (s.signalEvent u).freeCount = s.freeCount := by
  unfold State.signalEvent; dsimp only; split <;> simp
@[simp] theorem State.signalEvent_pending (s : State) (u : SignalUnit) : (s.signalEvent u).pending = s.pending := by
  unfold State.signalEvent; dsimp only; split <;> simp

/-- The enable mask and the error queue are left alone by a wake. -/
theorem wake_sts (s : State) : s.wake.sts = { s.sts with events := s.wake.sts.events } := by
  unfold State.wake; split <;> rfl

/-- The signal unit after an event that leaves it as `u`: only the standby flag can change, by a wake. -/
theorem signalEvent_sig (s : State) (u : SignalUnit) : (s.signalEvent u).sig = u ∨
    (s.signalEvent u).sig = { u with standby := false } := by
  unfold State.signalEvent
  dsimp only
  split
  · simp only [State.handOn_sig]
    unfold State.wake
    split <;> simp
  · simp

end Sys2Proof.Machine
end

