-- ==== Sys2Proof/Laws/Status.lean ====
section
/-! SUPPORT. Laws/Status.lean: what the end of an event does to the status unit and the link port, and the error queue. -/

set_option Elab.async false

namespace Sys2Proof.Machine

/-! ### What an item depends on -/

/-- A condition item depends on its owners alone: cameras, signal unit, output state, profile store, TILE_FAULT and the
error queue. -/
theorem conditionItem_congr {s t : State} (hc : s.cams = t.cams) (hg : s.sig = t.sig)
    (hd : s.disp.state = t.disp.state) (hp : s.prf = t.prf) (hf : s.comp.tileFault = t.comp.tileFault)
    (he : s.sts.errors = t.sts.errors) (n : Fin 32) : s.conditionItem n = t.conditionItem n := by
  simp only [State.conditionItem, hc, hg, hd, hp, hf, he]

theorem conditionsNow_congr {s t : State} (hc : s.cams = t.cams) (hg : s.sig = t.sig)
    (hd : s.disp.state = t.disp.state) (hp : s.prf = t.prf) (hf : s.comp.tileFault = t.comp.tileFault)
    (he : s.sts.errors = t.sts.errors) : s.conditionsNow = t.conditionsNow := by
  have : s.conditionItem = t.conditionItem := funext fun n => conditionItem_congr hc hg hd hp hf he n
  simp only [State.conditionsNow, this]

theorem conditionsNow_getLsbD (s : State) (n : Fin 32) : s.conditionsNow.getLsbD n = s.conditionItem n := by
  simp [State.conditionsNow]

/-! ### ATTN -/

theorem attnOf_true_iff (events enable : BitVec 32) :
    attnOf events enable = true ↔ ∃ n : Fin 32, events.getLsbD n = true ∧ enable.getLsbD n = true := by
  constructor
  · intro h
    by_contra hn
    have hz : events &&& enable = 0#32 := by
      apply BitVec.eq_of_getLsbD_eq
      intro i hi
      have := not_exists.mp hn ⟨i, hi⟩
      simpa using this
    simp [attnOf, hz] at h
  · rintro ⟨n, he, hm⟩
    by_contra hn
    have hz : events &&& enable = 0#32 := by simpa [attnOf] using hn
    have hb : (events &&& enable).getLsbD n = true := by simp [he, hm]
    simp [hz] at hb

/-! ### The end of an event -/

theorem settle_conditions (s : State) : s.settle.sts.conditions = s.conditionsNow := rfl

theorem settle_events (s : State) :
    s.settle.sts.events = s.sts.events ||| (s.conditionsNow &&& ~~~s.sts.conditions) := rfl

theorem settle_attn (s : State) : s.settle.sts.attn = attnOf s.settle.sts.events s.sts.enable := rfl

@[simp] theorem settle_enable (s : State) : s.settle.sts.enable = s.sts.enable := rfl
@[simp] theorem settle_errors (s : State) : s.settle.sts.errors = s.sts.errors := rfl
@[simp] theorem settle_owed (s : State) : s.settle.link.owed = s.link.owed := rfl
@[simp] theorem settle_tx (s : State) : s.settle.link.tx = s.link.tx := rfl
@[simp] theorem settle_rx (s : State) : s.settle.link.rx = s.link.rx := rfl
@[simp] theorem settle_rate (s : State) : s.settle.link.rate = s.link.rate := rfl
@[simp] theorem settle_lastStop (s : State) : s.settle.link.lastStop = s.link.lastStop := rfl
@[simp] theorem settle_counters (s : State) : s.settle.link.counters = s.link.counters := rfl

theorem settle_noticePending (s : State) :
    s.settle.link.noticePending = (s.link.noticePending || (s.settle.sts.attn && !s.sts.attn)) := rfl

theorem settle_conditionsNow (s : State) : s.settle.conditionsNow = s.conditionsNow :=
  conditionsNow_congr rfl rfl rfl rfl rfl rfl

/-- An event that ends without a change ends as it stood: the end of an event has nothing left to do after another. -/
theorem settle_settle (s : State) : s.settle.settle = s.settle := by
  have keep : ∀ a b : BitVec 32, a ||| (b &&& ~~~b) = a := by intro a b; simp
  have events : s.settle.settle.sts.events = s.settle.sts.events := by
    rw [settle_events s.settle, settle_conditionsNow, settle_conditions, keep]
  have attn : s.settle.settle.sts.attn = s.settle.sts.attn := by
    rw [settle_attn, events, settle_attn s]; rfl
  have pending : s.settle.settle.link.noticePending = s.settle.link.noticePending := by
    rw [settle_noticePending, attn]; simp
  have unit : s.settle.settle.sts = s.settle.sts := by
    have : s.settle.settle.sts = { s.settle.sts with
        conditions := s.settle.settle.sts.conditions
        events := s.settle.settle.sts.events
        attn := s.settle.settle.sts.attn } := rfl
    rw [this, events, attn, settle_conditions, settle_conditionsNow]; rfl
  have whole : s.settle.settle = { s.settle with
      sts := s.settle.settle.sts
      link := { s.settle.link with noticePending := s.settle.settle.link.noticePending } } := rfl
  rw [whole, unit, pending]

/-- What the receiver holds and when it last heard a byte reach no condition: the end of the event changes nothing. -/
theorem settle_receiver (s : State) (rx : Receiver) (n : Nat) :
    State.settle { s.settle with link := { s.settle.link with rx := rx, lastStop := n } } =
      { s.settle with link := { s.settle.link with rx := rx, lastStop := n } } := by
  have h : State.settle { s.settle with link := { s.settle.link with rx := rx, lastStop := n } } =
      { s.settle.settle with link := { s.settle.settle.link with rx := rx, lastStop := n } } := rfl
  rw [h, settle_settle]

/-- The end of an event leaves the status unit in order (R156, R157), whatever the state before it. -/
theorem settle_statusSafe (s : State) : s.settle.statusSafe := by
  intro _
  refine ⟨fun n => ?_, ?_⟩
  · rw [settle_conditions, conditionsNow_getLsbD]
    exact conditionItem_congr (s := s) (t := s.settle) rfl rfl rfl rfl rfl rfl n
  · rw [settle_attn]
    exact attnOf_true_iff _ _

/-! ### The error queue (R160) -/

theorem pushError_room {q : List ErrorEntry} (e : ErrorEntry) (h : q.length < 16) : pushError q e = q ++ [e] := by
  simp [pushError, h]

/-- The queue holds at most 16 entries after an error is handed to it, when it did before. -/
theorem pushError_length {q : List ErrorEntry} (e : ErrorEntry) (h : q.length ≤ 16) : (pushError q e).length ≤ 16 := by
  unfold pushError
  split
  · simp; omega
  · split
    · split <;> simp <;> omega
    · rename_i hn
      have : q = [] := by simpa using hn
      simp [this]

end Sys2Proof.Machine
end

