-- ==== Sys2Proof/Laws/Events.lean ====
section
/-! SUPPORT. Laws/Events.lean: what the shared operations of the commands can do: an event, a request, the arrival of a
frame and a collision. Later proofs cite these and do not unfold the operations. -/

set_option Elab.async false

namespace Sys2Proof.Machine

/-- An event either does not occur and changes nothing, or has its effect and ends. -/
theorem event_cases {s t : State} {occurs : Bool} {effect : State → State} (h : event s occurs effect = .next t) :
    t = s ∨ (s.powered = true ∧ occurs = true ∧ t = (effect s).settle) := by
  unfold event at h
  split at h
  · rename_i hc
    injection h with h
    simp only [Bool.and_eq_true] at hc
    exact .inr ⟨hc.1, hc.2, h.symm⟩
  · injection h with h
    exact .inl h.symm

/-- An event that occurs in the powered part has its effect. -/
theorem event_occurs {s : State} {occurs : Bool} (effect : State → State) (hp : s.powered = true) (ho : occurs = true) :
    event s occurs effect = .next (effect s).settle := by
  simp [event, hp, ho]

/-- An event never stops the part. -/
theorem event_next (s : State) (occurs : Bool) (effect : State → State) : ∃ t, event s occurs effect = .next t := by
  unfold event
  split <;> exact ⟨_, rfl⟩

/-- A request's reply, as the answered state of Safety.lean. -/
theorem finish_eq (a : Answer) (type : Byte) (h : Header) :
    Answer.finish a type h = a.state.answered type h a.code a.data := rfl

/-- A request either reaches a part without power and changes nothing, or is answered in the state its frame's arrival
leaves. -/
theorem request_cases {type : Byte} {h : Header} {lengthOk : Bool} {owner : State → Answer} {s t : State}
    (hr : request type h lengthOk owner s = .next t) :
    t = s ∨ (s.powered = true ∧
      ((lengthOk = true ∧ t = (owner s.frameArrives).finish type h) ∨
       (lengthOk = false ∧ t = (refuse s.frameArrives .badLength).finish type h))) := by
  unfold request at hr
  split at hr
  · rename_i hp
    injection hr with hr
    cases hl : lengthOk <;> simp_all
  · injection hr with hr
    exact .inl hr.symm

/-- A request of the right length is answered by its owner. -/
theorem request_owner {type : Byte} {h : Header} {lengthOk : Bool} {owner : State → Answer} {s : State}
    (hp : s.powered = true) (hl : lengthOk = true) :
    request type h lengthOk owner s = .next ((owner s.frameArrives).finish type h) := by
  simp [request, hp, hl]

/-- A byte of the controller collides exactly while the port is engaged. -/
theorem controllerByte_idle {s : State} (h : s.link.engaged = false) : s.controllerByte = s := by
  simp [State.controllerByte, h]

theorem controllerByte_engaged {s : State} (h : s.link.engaged = true) : s.controllerByte = s.collide := by
  simp [State.controllerByte, h]

/-- The arrival of a frame at an awake part whose port is not engaged touches the link port alone (R170 step 1). -/
theorem frameArrives_awake {s : State} (he : s.link.engaged = false) (hs : s.sig.standby = false) :
    s.frameArrives = { s with link := { s.link with
      rx := huntReceiver
      lastStop := s.clock
      counters := { s.link.counters with framesReceived := bump s.link.counters.framesReceived } } } := by
  simp [State.frameArrives, controllerByte_idle he, hs]

/-- A collision with an owed reply: the reply is dropped, and a soft reset that waits for it follows (R173, R178). -/
theorem collide_reply {s : State} {r : Reply} (h : s.link.owed = some r) :
    ∃ u : State, u.link.owed = none ∧ u.link.tx = .idle ∧ u.link.rx = huntReceiver ∧
      u.sts.errors = pushError s.sts.errors ⟨.linkCollision, r.type.toNat, s.timeBase % 65536⟩ ∧
      s.collide = State.afterReply u.settle r := by
  refine ⟨State.queueError { s with link := { s.link with
      owed := none, tx := .idle, rx := huntReceiver
      counters := { s.link.counters with repliesDropped := bump s.link.counters.repliesDropped } } }
      .linkCollision r.type.toNat, rfl, rfl, rfl, rfl, ?_⟩
  simp only [State.collide, h]

/-- A wake in AWAKE has no effect (R139). -/
theorem wake_awake {s : State} (h : s.sig.standby = false) : s.wake = s := by
  simp [State.wake, h]

/-- After a wake the part is awake (R139). -/
theorem wake_standby (s : State) : s.wake.sig.standby = false := by
  unfold State.wake
  cases h : s.sig.standby <;> simp [h]

end Sys2Proof.Machine
end

