-- ==== Sys2Proof/Laws/Meshes.lean ====
section
/-! SUPPORT. Laws/Meshes.lean: the node charge as slots change (R61). -/

set_option Elab.async false

namespace Sys2Proof.Machine

theorem list_sum_set (l : List Nat) (i x : Nat) (h : i < l.length) : (l.set i x).sum + l[i] = l.sum + x := by
  induction l generalizing i with
  | nil => simp at h
  | cons a l ih =>
    cases i with
    | zero => simp; omega
    | succ i =>
      have := ih i (by simpa using h)
      simp only [List.set_cons_succ, List.sum_cons, List.getElem_cons_succ]
      omega

/-- Replacing a slot changes the charge by what the slot charged and what it charges (R61). -/
theorem charge_put (m : MeshStore) (i : Fin 8) (x : MeshSlot) :
    (m.put i x).charge + m.slots[i].charge = m.charge + x.charge := by
  have e : (m.put i x).slots.toList.map MeshSlot.charge
      = (m.slots.toList.map MeshSlot.charge).set i.val x.charge := by
    simp [MeshStore.put, Vector.toList_set, List.map_set]
  have := list_sum_set (m.slots.toList.map MeshSlot.charge) i.val x.charge (by simp)
  simp only [MeshStore.charge, e]
  simpa using this

/-- A slot charges no more than the whole store. -/
theorem slot_charge_le (m : MeshStore) (i : Fin 8) : m.slots[i].charge ≤ m.charge := by
  have := charge_put m i .free
  simp only [MeshSlot.charge] at this ⊢
  have h := charge_put m i .free
  simp only [show MeshSlot.charge .free = 0 from rfl] at h
  omega

@[simp] theorem put_upload (m : MeshStore) (i : Fin 8) (x : MeshSlot) : (m.put i x).upload = m.upload := rfl

@[simp] theorem put_same (m : MeshStore) (i : Fin 8) (x : MeshSlot) : (m.put i x).slots[i] = x := by
  simp [MeshStore.put]

theorem put_other (m : MeshStore) (i j : Fin 8) (x : MeshSlot) (h : i ≠ j) : (m.put i x).slots[j] = m.slots[j] := by
  have : i.val ≠ j.val := fun e => h (Fin.ext e)
  simp [MeshStore.put, Vector.getElem_set_ne, this]

end Sys2Proof.Machine
end

