-- ==== Sys2Proof/Laws/Outputs.lean ====
section
/-! SUPPORT. Laws/Outputs.lean: the picture on the monitor through an entry into OFF (R116), and what a load does to the display
output (R126). Later proofs cite these and do not unfold the display output. -/

set_option Elab.async false

namespace Sys2Proof.Machine

/-- Entering OFF does not change the picture on the monitor. -/
@[simp] theorem screen_enterOff (s : State) : ({ s with disp := s.disp.enterOff s.screen } : State).screen = s.screen := rfl

/-- In OFF the picture is the one the entry into OFF left. -/
theorem screen_off {s : State} (h : s.disp.sending = .nothing) : s.screen = s.disp.shown := by
  simp [State.screen, h]

/-- Standby entry does not change the picture on the monitor. -/
@[simp] theorem screen_enterStandby (s : State) : s.enterStandby.screen = s.screen := rfl

/-- Reaching the stop target OFF does not change the picture on the monitor. -/
theorem screen_enterStopTarget {s : State} {shown : Option Screen} (h : s.disp.stopToStarting = false) :
    (s.enterStopTarget shown).screen = shown := by
  simp [State.enterStopTarget, State.discardContext, State.screen, Display.enterOff, h]

/-- What the monitor shows depends on the power and the picture alone. -/
theorem displayPixel_congr {s t : State} (hp : s.powered = t.powered) (hs : s.screen = t.screen) (X Y : Nat) :
    s.displayPixel X Y = t.displayPixel X Y := by
  simp [State.displayPixel, hp, hs]

/-- A load leaves no hold pending, takes the profile's output enable, and stages a timing only in STOPPING (R126). -/
theorem load_holdPending (d : Display) (on : Bool) (L : Timing) (now : Nat) (shown : Option Screen) :
    (d.load on L now shown).holdPending = false ∧ (d.load on L now shown).enable = on ∧
    ((d.load on L now shown).state ≠ .stopping → (d.load on L now shown).staged = none) := by
  by_cases h : L = d.current <;> cases hs : d.state <;> cases on <;>
    simp [Display.load, hs, h, Display.enterStarting, Display.enterOff, Display.stop]

end Sys2Proof.Machine
end

