-- ==== Sys2Proof/Laws/Payloads.lean ====
section
/-! SUPPORT. Laws/Payloads.lean: what the payload layouts of R174 read from bytes, as numbers. -/

set_option Elab.async false

namespace Sys2Proof.Machine

/-- Two bytes as an unsigned field, high byte first. -/
theorem wordOf_toNat (hi lo : Byte) : (wordOf hi lo).toNat = hi.toNat * 256 + lo.toNat := by
  have hl := lo.isLt
  have e : hi.toNat * 256 = hi.toNat <<< 8 := by simp [Nat.shiftLeft_eq]
  simp only [wordOf, BitVec.toNat_append, e]
  rw [Nat.shiftLeft_add_eq_or_of_lt (by omega)]

/-- Two bytes as a signed field, high byte first. -/
theorem wordOf_toInt (hi lo : Byte) : (wordOf hi lo).toInt =
    if hi.toNat < 128 then (hi.toNat : Int) * 256 + lo.toNat else (hi.toNat : Int) * 256 + lo.toNat - 65536 := by
  have hh := hi.isLt
  have hl := lo.isLt
  rw [BitVec.toInt_eq_toNat_cond, wordOf_toNat]
  split <;> split <;> push_cast <;> omega

/-- Four bytes a node: bytes that are whole nodes spell them, node i by its own four bytes. -/
theorem nodesOf_whole (k : Nat) (bytes : List Byte) (hk : bytes.length = 4 * k) :
    ∃ l, nodesOf bytes = some l ∧ l.length = k ∧ ∀ i < k, l.getD i ⟨0, 0⟩ =
      ⟨(wordOf (bytes.getD (4 * i) 0) (bytes.getD (4 * i + 1) 0)).toInt,
        (wordOf (bytes.getD (4 * i + 2) 0) (bytes.getD (4 * i + 3) 0)).toInt⟩ := by
  induction k generalizing bytes with
  | zero =>
    have : bytes = [] := by simpa using hk
    exact ⟨[], by simp [this, nodesOf], rfl, by simp⟩
  | succ k ih =>
    match bytes, hk with
    | a :: b :: c :: d :: rest, hk =>
      obtain ⟨l, h1, h2, h3⟩ := ih rest (by simp at hk; omega)
      refine ⟨⟨(wordOf a b).toInt, (wordOf c d).toInt⟩ :: l, by simp [nodesOf, h1], by simp [h2], ?_⟩
      intro i hi
      cases i with
      | zero => simp
      | succ i =>
        have := h3 i (by omega)
        rw [show 4 * (i + 1) = 4 * i + 4 by omega]
        simpa using this
    | [], hk => simp at hk
    | [_], hk => simp at hk; omega
    | [_, _], hk => simp at hk; omega
    | [_, _, _], hk => simp at hk; omega

end Sys2Proof.Machine
end

