-- ==== Sys2Proof/WellFormed.lean ====
section
/-! DEFINITION. WellFormed.lean: the commands a control link frame can carry. Every field of a request has the width its
payload gives it (chapter 11.5 and 11.6); what lies outside a field's RANGE is not ill-formed, since the part refuses it
with a result code. The commands that are no request are well formed by their types, but for what their bytes spell
(R169, R170). -/
namespace Sys2Proof

/-- The value fits one byte. -/
def isByte (n : Nat) : Bool := n < 256

/-- The value fits two bytes. -/
def isWord (n : Nat) : Bool := n < 65536

/-- The value fits two bytes as a signed number (R84). -/
def isSigned16 (z : Int) : Bool := -32768 ≤ z && z ≤ 32767

/-- A payload holds at most 248 bytes (R168). -/
def Header.wellFormed (h : Header) : Bool := h.len ≤ 248

def PortItems.wellFormed (p : PortItems) : Bool :=
  isWord p.word0 && isWord p.word1 && isWord p.word2 && isWord p.word3 && isWord p.width && isWord p.height &&
  isWord p.period && isByte p.damageLimit && isByte p.runLimit && isByte p.minWindow && isByte p.rateWindow &&
  isWord p.lostLimit

def Gate.wellFormed : Gate → Bool
  | .signal n => isByte n
  | _ => true

def MeterItems.wellFormed (m : MeterItems) : Bool :=
  isWord m.winX && isWord m.winY && isWord m.winW && isWord m.winH && isByte m.gainMin && isByte m.gainMax &&
  isByte m.target && isByte m.slew && isByte m.deadBand && isByte m.clarityThreshold && isByte m.interval &&
  isByte m.darkLimit && m.gate.wellFormed && isByte m.clearMax && isByte m.obscuredMin

def TileFields.wellFormed (t : TileFields) : Bool :=
  isByte t.camera && isWord t.x && isWord t.y && isWord t.w && isWord t.h && isWord t.sx && isWord t.sy && isWord t.sw &&
  isWord t.sh && isByte t.slot

def Geometry.wellFormed : Geometry → Bool
  | .line x0 y0 x1 y1 b => isSigned16 x0 && isSigned16 y0 && isSigned16 x1 && isSigned16 y1 && isByte b
  | .rect x y w h b => isSigned16 x && isSigned16 y && isWord w && isWord h && isByte b
  | .box x y w h => isSigned16 x && isSigned16 y && isWord w && isWord h
  | .glyph x y g s => isSigned16 x && isSigned16 y && isByte g && isByte s

def PrimFields.wellFormed (p : PrimFields) : Bool :=
  isByte p.alpha && (p.geometry.map Geometry.wellFormed).getD true &&
  match p.showWhen with
  | .always => true
  | .onSignal n _ => isByte n

def EntryFields.wellFormed (e : EntryFields) : Bool :=
  isByte e.termCount && e.terms.all (fun t => isByte t.signal) && isByte e.view && isWord e.dwell && isWord e.release

def SourceFields.wellFormed : SourceFields → Bool
  | .wire n => isByte n
  | .speed on off => isByte on && isByte off
  | _ => true

def SignalConfigFields.wellFormed (c : SignalConfigFields) : Bool :=
  c.signals.toList.all (fun s => s.source.wellFormed && isWord s.timeout) &&
  c.wires.toList.all (fun w => isByte w.debounce) && isWord c.speedTimeout && isByte c.moving

/-- A command that the part can be given. -/
def Instr.wellFormed : Instr → Bool
  | .powerOnReset _ _ => true
  | .carrierPresent _ => true
  | .carrierLost _ => true
  | .trainingWord _ _ => true
  | .wordTimerExpiry _ => true
  | .frameStart _ _ => true
  | .line _ _ _ _ => true
  | .frameEnd _ _ => true
  | .staleDeadlineExpiry _ => true
  | .lostDeadlineExpiry _ => true
  | .meshInactivityExpiry => true
  | .outputFrameStart => true
  | .settleTimerExpiry => true
  | .holdTimerExpiry => true
  | .rawChange _ _ => true
  | .debounceTimerExpiry _ => true
  | .refreshTimerExpiry _ => true
  | .speedTimerExpiry => true
  | .releaseTimerExpiry _ => true
  | .overrideExpiry => true
  | .profileSaveCompletion _ => true
  | .linkFraming bytes _ _ => bytes.length ≤ 253
  | .linkGap bytes => bytes.length ≤ 253
  | .linkCheck bytes => bytes.length ≤ 254
  | .unknownType _ h => h.wellFormed
  | .replyStart => true
  | .replyEnd => true
  | .noticeStart => true
  | .noticeEnd => true
  | .collision _ _ => true
  | .identify h => h.wellFormed
  | .resetPart h => h.wellFormed
  | .setCameraConfig h cam items => h.wellFormed && isByte cam && items.wellFormed
  | .cameraEnable h cam => h.wellFormed && isByte cam
  | .cameraDisable h cam => h.wellFormed && isByte cam
  | .cameraRetrain h cam => h.wellFormed && isByte cam
  | .readCameraReport h cam => h.wellFormed && isByte cam
  | .setMetering h cam items => h.wellFormed && isByte cam && items.wellFormed
  | .meshBegin h slot cols rows => h.wellFormed && isByte slot && isByte cols && isByte rows
  | .meshRows h _ _ nodes => h.wellFormed && nodes.length ≤ 246
  | .meshEnd h slot => h.wellFormed && isByte slot
  | .meshFree h slot => h.wellFormed && isByte slot
  | .defineView h view count tiles => h.wellFormed && isByte view && isByte count && tiles.all TileFields.wellFormed
  | .overlayClear h view => h.wellFormed && isByte view
  | .overlayAppend h view count prims => h.wellFormed && isByte view && isByte count && prims.all PrimFields.wellFormed
  | .deleteView h view => h.wellFormed && isByte view
  | .readView h view part =>
    h.wellFormed && isByte view && match part with | .overlays k => isByte k | _ => true
  | .setSelectionEntry h entry fields => h.wellFormed && isByte entry && fields.wellFormed
  | .clearSelectionEntry h entry => h.wellFormed && isByte entry
  | .setDefaultView h view => h.wellFormed && isByte view
  | .overrideView h view rank duration => h.wellFormed && isByte view && isByte rank && duration < 4294967296
  | .cancelOverride h => h.wellFormed
  | .readSelection h part => h.wellFormed && match part with | .entries k => isByte k | _ => true
  | .signalUpdate h _ _ _ => h.wellFormed
  | .setSignalConfig h config => h.wellFormed && config.wellFormed
  | .readSignals h => h.wellFormed
  | .enterStandby h => h.wellFormed
  | .outputEnable h => h.wellFormed
  | .outputDisable h => h.wellFormed
  | .outputHold h => h.wellFormed
  | .outputResume h => h.wellFormed
  | .setOutputTiming h timing => h.wellFormed && isByte timing
  | .readConditions h => h.wellFormed
  | .readEvents h => h.wellFormed
  | .setEventEnable h _ => h.wellFormed
  | .readError h => h.wellFormed
  | .saveProfile h slot => h.wellFormed && isByte slot
  | .loadProfile h slot => h.wellFormed && isByte slot
  | .powerLoss => true

end Sys2Proof
end

