-- ==== Sys2Proof/Laws/PerInstr.lean ====
section
/-! SUPPORT. Laws/PerInstr.lean: a statement about every command as syntax, one lemma per constructor: a well-formed request
carries a payload that a frame can hold (R168). -/

set_option Elab.async false

namespace Sys2Proof

/-- The header of a request frame; none for a command that is no request frame. -/
def Instr.header : Instr → Option Header
  | .powerOnReset _ _ => none
  | .carrierPresent _ => none
  | .carrierLost _ => none
  | .trainingWord _ _ => none
  | .wordTimerExpiry _ => none
  | .frameStart _ _ => none
  | .line _ _ _ _ => none
  | .frameEnd _ _ => none
  | .staleDeadlineExpiry _ => none
  | .lostDeadlineExpiry _ => none
  | .meshInactivityExpiry => none
  | .outputFrameStart => none
  | .settleTimerExpiry => none
  | .holdTimerExpiry => none
  | .rawChange _ _ => none
  | .debounceTimerExpiry _ => none
  | .refreshTimerExpiry _ => none
  | .speedTimerExpiry => none
  | .releaseTimerExpiry _ => none
  | .overrideExpiry => none
  | .profileSaveCompletion _ => none
  | .linkFraming _ _ _ => none
  | .linkGap _ => none
  | .linkCheck _ => none
  | .unknownType _ h => some h
  | .replyStart => none
  | .replyEnd => none
  | .noticeStart => none
  | .noticeEnd => none
  | .collision _ _ => none
  | .identify h => some h
  | .resetPart h => some h
  | .setCameraConfig h _ _ => some h
  | .cameraEnable h _ => some h
  | .cameraDisable h _ => some h
  | .cameraRetrain h _ => some h
  | .readCameraReport h _ => some h
  | .setMetering h _ _ => some h
  | .meshBegin h _ _ _ => some h
  | .meshRows h _ _ _ => some h
  | .meshEnd h _ => some h
  | .meshFree h _ => some h
  | .defineView h _ _ _ => some h
  | .overlayClear h _ => some h
  | .overlayAppend h _ _ _ => some h
  | .deleteView h _ => some h
  | .readView h _ _ => some h
  | .setSelectionEntry h _ _ => some h
  | .clearSelectionEntry h _ => some h
  | .setDefaultView h _ => some h
  | .overrideView h _ _ _ => some h
  | .cancelOverride h => some h
  | .readSelection h _ => some h
  | .signalUpdate h _ _ _ => some h
  | .setSignalConfig h _ => some h
  | .readSignals h => some h
  | .enterStandby h => some h
  | .outputEnable h => some h
  | .outputDisable h => some h
  | .outputHold h => some h
  | .outputResume h => some h
  | .setOutputTiming h _ => some h
  | .readConditions h => some h
  | .readEvents h => some h
  | .setEventEnable h _ => some h
  | .readError h => some h
  | .saveProfile h _ => some h
  | .loadProfile h _ => some h
  | .powerLoss => none

namespace Laws.HeaderFits

/-- A well-formed command with a header carries at most 248 payload bytes (R168). -/
def Statement (i : Instr) : Prop := i.wellFormed = true → ∀ h, i.header = some h → h.len ≤ 248

theorem powerOnReset (strapA strapB : Bool) : Statement (.powerOnReset strapA strapB) := fun _ _ e => nomatch e
theorem carrierPresent (cam : Fin 4) : Statement (.carrierPresent cam) := fun _ _ e => nomatch e
theorem carrierLost (cam : Fin 4) : Statement (.carrierLost cam) := fun _ _ e => nomatch e
theorem trainingWord (cam : Fin 4) (word : BitVec 10) : Statement (.trainingWord cam word) := fun _ _ e => nomatch e
theorem wordTimerExpiry (cam : Fin 4) : Statement (.wordTimerExpiry cam) := fun _ _ e => nomatch e
theorem frameStart (cam : Fin 4) (number : Byte) : Statement (.frameStart cam number) := fun _ _ e => nomatch e
theorem line (cam : Fin 4) (index : BitVec 16) (pixels : List Pixel) (check : BitVec 16) : Statement (.line cam index pixels check) := fun _ _ e => nomatch e
theorem frameEnd (cam : Fin 4) (lineCount : Nat) : Statement (.frameEnd cam lineCount) := fun _ _ e => nomatch e
theorem staleDeadlineExpiry (cam : Fin 4) : Statement (.staleDeadlineExpiry cam) := fun _ _ e => nomatch e
theorem lostDeadlineExpiry (cam : Fin 4) : Statement (.lostDeadlineExpiry cam) := fun _ _ e => nomatch e
theorem meshInactivityExpiry : Statement (.meshInactivityExpiry) := fun _ _ e => nomatch e
theorem outputFrameStart : Statement (.outputFrameStart) := fun _ _ e => nomatch e
theorem settleTimerExpiry : Statement (.settleTimerExpiry) := fun _ _ e => nomatch e
theorem holdTimerExpiry : Statement (.holdTimerExpiry) := fun _ _ e => nomatch e
theorem rawChange (wire : Fin 6) (level : Bool) : Statement (.rawChange wire level) := fun _ _ e => nomatch e
theorem debounceTimerExpiry (wire : Fin 6) : Statement (.debounceTimerExpiry wire) := fun _ _ e => nomatch e
theorem refreshTimerExpiry (signal : Fin 16) : Statement (.refreshTimerExpiry signal) := fun _ _ e => nomatch e
theorem speedTimerExpiry : Statement (.speedTimerExpiry) := fun _ _ e => nomatch e
theorem releaseTimerExpiry (entry : Fin 16) : Statement (.releaseTimerExpiry entry) := fun _ _ e => nomatch e
theorem overrideExpiry : Statement (.overrideExpiry) := fun _ _ e => nomatch e
theorem profileSaveCompletion (verified : Bool) : Statement (.profileSaveCompletion verified) := fun _ _ e => nomatch e
theorem linkFraming (bytes : List Byte) (last : Byte) (stopFault : Bool) : Statement (.linkFraming bytes last stopFault) := fun _ _ e => nomatch e
theorem linkGap (bytes : List Byte) : Statement (.linkGap bytes) := fun _ _ e => nomatch e
theorem linkCheck (bytes : List Byte) : Statement (.linkCheck bytes) := fun _ _ e => nomatch e
theorem unknownType (type : Byte) (h : Header) : Statement (.unknownType type h) := by
  intro w g e; simp_all [Instr.wellFormed, Header.wellFormed, Instr.header]
theorem replyStart : Statement (.replyStart) := fun _ _ e => nomatch e
theorem replyEnd : Statement (.replyEnd) := fun _ _ e => nomatch e
theorem noticeStart : Statement (.noticeStart) := fun _ _ e => nomatch e
theorem noticeEnd : Statement (.noticeEnd) := fun _ _ e => nomatch e
theorem collision (byte : Byte) (stopFault : Bool) : Statement (.collision byte stopFault) := fun _ _ e => nomatch e
theorem identify (h : Header) : Statement (.identify h) := by
  intro w g e; simp_all [Instr.wellFormed, Header.wellFormed, Instr.header]
theorem resetPart (h : Header) : Statement (.resetPart h) := by
  intro w g e; simp_all [Instr.wellFormed, Header.wellFormed, Instr.header]
theorem setCameraConfig (h : Header) (cam : Nat) (items : PortItems) : Statement (.setCameraConfig h cam items) := by
  intro w g e; simp_all [Instr.wellFormed, Header.wellFormed, Instr.header]
theorem cameraEnable (h : Header) (cam : Nat) : Statement (.cameraEnable h cam) := by
  intro w g e; simp_all [Instr.wellFormed, Header.wellFormed, Instr.header]
theorem cameraDisable (h : Header) (cam : Nat) : Statement (.cameraDisable h cam) := by
  intro w g e; simp_all [Instr.wellFormed, Header.wellFormed, Instr.header]
theorem cameraRetrain (h : Header) (cam : Nat) : Statement (.cameraRetrain h cam) := by
  intro w g e; simp_all [Instr.wellFormed, Header.wellFormed, Instr.header]
theorem readCameraReport (h : Header) (cam : Nat) : Statement (.readCameraReport h cam) := by
  intro w g e; simp_all [Instr.wellFormed, Header.wellFormed, Instr.header]
theorem setMetering (h : Header) (cam : Nat) (items : MeterItems) : Statement (.setMetering h cam items) := by
  intro w g e; simp_all [Instr.wellFormed, Header.wellFormed, Instr.header]
theorem meshBegin (h : Header) (slot cols rows : Nat) : Statement (.meshBegin h slot cols rows) := by
  intro w g e; simp_all [Instr.wellFormed, Header.wellFormed, Instr.header]
theorem meshRows (h : Header) (slot row : Byte) (nodes : List Byte) : Statement (.meshRows h slot row nodes) := by
  intro w g e; simp_all [Instr.wellFormed, Header.wellFormed, Instr.header]
theorem meshEnd (h : Header) (slot : Nat) : Statement (.meshEnd h slot) := by
  intro w g e; simp_all [Instr.wellFormed, Header.wellFormed, Instr.header]
theorem meshFree (h : Header) (slot : Nat) : Statement (.meshFree h slot) := by
  intro w g e; simp_all [Instr.wellFormed, Header.wellFormed, Instr.header]
theorem defineView (h : Header) (view count : Nat) (tiles : List TileFields) : Statement (.defineView h view count tiles) := by
  intro w g e; simp_all [Instr.wellFormed, Header.wellFormed, Instr.header]
theorem overlayClear (h : Header) (view : Nat) : Statement (.overlayClear h view) := by
  intro w g e; simp_all [Instr.wellFormed, Header.wellFormed, Instr.header]
theorem overlayAppend (h : Header) (view count : Nat) (prims : List PrimFields) : Statement (.overlayAppend h view count prims) := by
  intro w g e; simp_all [Instr.wellFormed, Header.wellFormed, Instr.header]
theorem deleteView (h : Header) (view : Nat) : Statement (.deleteView h view) := by
  intro w g e; simp_all [Instr.wellFormed, Header.wellFormed, Instr.header]
theorem readView (h : Header) (view : Nat) (part : ViewPart) : Statement (.readView h view part) := by
  intro w g e; simp_all [Instr.wellFormed, Header.wellFormed, Instr.header]
theorem setSelectionEntry (h : Header) (entry : Nat) (fields : EntryFields) : Statement (.setSelectionEntry h entry fields) := by
  intro w g e; simp_all [Instr.wellFormed, Header.wellFormed, Instr.header]
theorem clearSelectionEntry (h : Header) (entry : Nat) : Statement (.clearSelectionEntry h entry) := by
  intro w g e; simp_all [Instr.wellFormed, Header.wellFormed, Instr.header]
theorem setDefaultView (h : Header) (view : Nat) : Statement (.setDefaultView h view) := by
  intro w g e; simp_all [Instr.wellFormed, Header.wellFormed, Instr.header]
theorem overrideView (h : Header) (view rank duration : Nat) : Statement (.overrideView h view rank duration) := by
  intro w g e; simp_all [Instr.wellFormed, Header.wellFormed, Instr.header]
theorem cancelOverride (h : Header) : Statement (.cancelOverride h) := by
  intro w g e; simp_all [Instr.wellFormed, Header.wellFormed, Instr.header]
theorem readSelection (h : Header) (part : SelectionPart) : Statement (.readSelection h part) := by
  intro w g e; simp_all [Instr.wellFormed, Header.wellFormed, Instr.header]
theorem signalUpdate (h : Header) (mask values : Byte × Byte) (speed : Byte) : Statement (.signalUpdate h mask values speed) := by
  intro w g e; simp_all [Instr.wellFormed, Header.wellFormed, Instr.header]
theorem setSignalConfig (h : Header) (config : SignalConfigFields) : Statement (.setSignalConfig h config) := by
  intro w g e; simp_all [Instr.wellFormed, Header.wellFormed, Instr.header]
theorem readSignals (h : Header) : Statement (.readSignals h) := by
  intro w g e; simp_all [Instr.wellFormed, Header.wellFormed, Instr.header]
theorem enterStandby (h : Header) : Statement (.enterStandby h) := by
  intro w g e; simp_all [Instr.wellFormed, Header.wellFormed, Instr.header]
theorem outputEnable (h : Header) : Statement (.outputEnable h) := by
  intro w g e; simp_all [Instr.wellFormed, Header.wellFormed, Instr.header]
theorem outputDisable (h : Header) : Statement (.outputDisable h) := by
  intro w g e; simp_all [Instr.wellFormed, Header.wellFormed, Instr.header]
theorem outputHold (h : Header) : Statement (.outputHold h) := by
  intro w g e; simp_all [Instr.wellFormed, Header.wellFormed, Instr.header]
theorem outputResume (h : Header) : Statement (.outputResume h) := by
  intro w g e; simp_all [Instr.wellFormed, Header.wellFormed, Instr.header]
theorem setOutputTiming (h : Header) (timing : Nat) : Statement (.setOutputTiming h timing) := by
  intro w g e; simp_all [Instr.wellFormed, Header.wellFormed, Instr.header]
theorem readConditions (h : Header) : Statement (.readConditions h) := by
  intro w g e; simp_all [Instr.wellFormed, Header.wellFormed, Instr.header]
theorem readEvents (h : Header) : Statement (.readEvents h) := by
  intro w g e; simp_all [Instr.wellFormed, Header.wellFormed, Instr.header]
theorem setEventEnable (h : Header) (mask : BitVec 32) : Statement (.setEventEnable h mask) := by
  intro w g e; simp_all [Instr.wellFormed, Header.wellFormed, Instr.header]
theorem readError (h : Header) : Statement (.readError h) := by
  intro w g e; simp_all [Instr.wellFormed, Header.wellFormed, Instr.header]
theorem saveProfile (h : Header) (slot : Nat) : Statement (.saveProfile h slot) := by
  intro w g e; simp_all [Instr.wellFormed, Header.wellFormed, Instr.header]
theorem loadProfile (h : Header) (slot : Nat) : Statement (.loadProfile h slot) := by
  intro w g e; simp_all [Instr.wellFormed, Header.wellFormed, Instr.header]
theorem powerLoss : Statement (.powerLoss) := fun _ _ e => nomatch e

end Laws.HeaderFits

end Sys2Proof
end

