-- ==== Sys2Proof/Laws/Reception.lean ====
section
/-! SUPPORT. Laws/Reception.lean: what the receiver does with the bytes of a frame (R169), from one byte to a run of them.
Later proofs cite these and do not unfold the receiver. -/

set_option Elab.async false

namespace Sys2Proof.Machine

/-- The receiver within a frame of the length byte `len` after the bytes `rest`, its gap timer at `gap`. -/
def withinFrame (len : Byte) (rest : List Byte) (gap : Nat) : Receiver :=
  ⟨if rest.length < len.toNat then .body else .check, 0xC5#8 :: len :: rest, some gap⟩

/-! ### One byte (R169) -/

/-- In HUNT a byte other than START, or a stop-bit fault, changes nothing. -/
theorem takeByte_stray {b : Byte} {stopFault : Bool} {r : Receiver} {now : Nat} (hr : r.state = .hunt)
    (h : b ≠ 0xC5#8 ∨ stopFault = true) : r.takeByte b stopFault now = (huntReceiver, .quiet) := by
  unfold Receiver.takeByte
  cases stopFault <;> simp_all [startByte]

/-- In HUNT a START byte begins a frame, and no gap timer runs yet (assumption 16). -/
theorem takeByte_start {r : Receiver} {now : Nat} (hr : r.state = .hunt) :
    r.takeByte 0xC5#8 false now = (⟨.length, [0xC5#8], none⟩, .quiet) := by
  simp [Receiver.takeByte, hr, startByte]

/-- A length byte from 2 to 250 is kept, and the gap timer runs. -/
theorem takeByte_length {b : Byte} {now : Nat} (h : 2 ≤ b.toNat ∧ b.toNat ≤ 250) :
    Receiver.takeByte ⟨.length, [0xC5#8], none⟩ b false now = (withinFrame b [] (now + 600), .quiet) := by
  have : 0 < b.toNat := by omega
  simp [Receiver.takeByte, withinFrame, within, h, this, gapMs, millis, instantsPerMs]

/-- A byte within a frame that is not its last is kept, and the gap timer starts again. -/
theorem takeByte_within {len : Byte} {rest : List Byte} {gap now : Nat} {b : Byte}
    (h : rest.length + 1 < 2 + len.toNat) :
    (withinFrame len rest gap).takeByte b false now = (withinFrame len (rest ++ [b]) (now + 600), .quiet) := by
  unfold Receiver.takeByte withinFrame
  by_cases hl : rest.length < len.toNat
  · simp only [hl, if_true]
    simp [gapMs, millis, instantsPerMs]
    split <;> rename_i hx
    · have : ¬ rest.length + 1 < len.toNat := by omega
      simp [this]
    · have : rest.length + 1 < len.toNat := by omega
      simp [this]
  · simp only [hl, if_false]
    have hb : ¬ rest.length + 1 < len.toNat := by omega
    have hc : rest.length + 1 + 1 + 1 < 4 + len.toNat := by omega
    simp [gapMs, millis, instantsPerMs, hb, hc]

/-- A stop-bit fault within a frame discards it. -/
theorem takeByte_stopFault {len : Byte} {rest : List Byte} {gap now : Nat} {b : Byte} :
    (withinFrame len rest gap).takeByte b true now = (huntReceiver, .framingFault (min (2 + rest.length) 255)) := by
  unfold Receiver.takeByte withinFrame
  by_cases hl : rest.length < len.toNat <;> simp [hl] <;> rw [Nat.add_comm 2]

/-! ### A run of bytes -/

/-- A byte that does not collide touches the receiver and the last stop bit alone. -/
theorem receiveByte_idle {s : State} {b : Byte} {stopFault : Bool} (he : s.link.engaged = false) :
    s.receiveByte b stopFault = ({ s with link := { s.link with
      rx := (s.link.rx.takeByte b stopFault s.clock).1, lastStop := s.clock } },
      (s.link.rx.takeByte b stopFault s.clock).2) := by
  simp only [State.receiveByte, controllerByte_idle he]

/-- A byte that collides is received by the state the collision leaves. -/
theorem receiveByte_engaged {s : State} {b : Byte} {stopFault : Bool} (he : s.link.engaged = true) :
    s.receiveByte b stopFault = ({ s.collide with link := { s.collide.link with
      rx := (s.collide.link.rx.takeByte b stopFault s.collide.clock).1, lastStop := s.collide.clock } },
      (s.collide.link.rx.takeByte b stopFault s.collide.clock).2) := by
  simp only [State.receiveByte, controllerByte_engaged he]

/-- Bytes within a frame are kept one after the other; nothing else of the state changes but the last stop bit. -/
theorem receiveQuiet_within {s : State} {len : Byte} {rest more : List Byte} {gap : Nat}
    (he : s.link.engaged = false) (hr : s.link.rx = withinFrame len rest gap)
    (h : (rest ++ more).length < 2 + len.toNat) (hm : more ≠ []) :
    s.receiveQuiet more = some { s with link := { s.link with
      rx := withinFrame len (rest ++ more) (s.clock + 600), lastStop := s.clock } } := by
  induction more generalizing s rest gap with
  | nil => exact absurd rfl hm
  | cons b more ih =>
    have h1 : rest.length + 1 < 2 + len.toNat := by simp at h; omega
    simp only [State.receiveQuiet, receiveByte_idle he, hr, takeByte_within h1]
    by_cases hm2 : more = []
    · subst hm2; simp [State.receiveQuiet]
    · have := ih (s := { s with link := { s.link with
          rx := withinFrame len (rest ++ [b]) (s.clock + 600), lastStop := s.clock } })
        he rfl (by simpa using h) hm2
      simpa using this

end Sys2Proof.Machine
end

