-- ==== Sys2Proof/Laws/Rings.lean ====
section
/-! SUPPORT. Laws/Rings.lean: every change of a frame ring keeps R24, and a FREE slot exists whenever a frame is to be
opened (R26). -/

set_option Elab.async false

namespace Sys2Proof.Machine

/-- How many slots of each kind a slot counts as. -/
def Slot.isFilling : Slot → Bool
  | .filling _ => true
  | _ => false

def Slot.isReady : Slot → Bool
  | .ready _ => true
  | _ => false

/-- R24, over the three slots by name. -/
theorem slotsSafe_iff (a b c : Slot) :
    slotsSafe [a, b, c] ↔
      a.isFilling.toNat + b.isFilling.toNat + c.isFilling.toNat ≤ 1 ∧
      a.isReady.toNat + b.isReady.toNat + c.isReady.toNat ≤ 1 ∧
      a.isShowing.toNat + b.isShowing.toNat + c.isShowing.toNat ≤ 1 := by
  unfold slotsSafe
  cases a <;> cases b <;> cases c <;>
    simp [Slot.isFilling, Slot.isReady, Slot.isShowing]

/-- A ring's three slots as a list. -/
theorem slots_toList (v : Vector Slot 3) : v.toList = [v[0], v[1], v[2]] := by
  apply List.ext_getElem
  · simp
  · intro i h₁ h₂
    have : i < 3 := by simpa using h₁
    interval_cases i <;> simp

/-- The slots of a ring after a change of every slot. -/
theorem mapSlots_toList (r : Ring) (f : Slot → Slot) :
    (r.mapSlots f).slots.toList = [f r.slots[0], f r.slots[1], f r.slots[2]] := by
  rw [slots_toList]
  simp [Ring.mapSlots]

/-- A change of every slot keeps R24 when no slot counts more in any of the three states. -/
theorem mapSlots_slotsSafe {r : Ring} {f : Slot → Slot} (h : slotsSafe r.slots.toList)
    (hf : ∀ x : Slot, (f x).isFilling.toNat ≤ x.isFilling.toNat ∧ (f x).isReady.toNat ≤ x.isReady.toNat ∧
      (f x).isShowing.toNat ≤ x.isShowing.toNat) : slotsSafe (r.mapSlots f).slots.toList := by
  rw [slots_toList, slotsSafe_iff] at h
  rw [mapSlots_toList, slotsSafe_iff]
  have h0 := hf r.slots[0]
  have h1 := hf r.slots[1]
  have h2 := hf r.slots[2]
  omega

theorem reject_slotsSafe {r : Ring} (h : slotsSafe r.slots.toList) : slotsSafe r.reject.slots.toList :=
  mapSlots_slotsSafe h fun x => by cases x <;> simp [Slot.dropFilling, Slot.isFilling, Slot.isReady, Slot.isShowing]

theorem release_slotsSafe {r : Ring} (h : slotsSafe r.slots.toList) : slotsSafe r.release.slots.toList :=
  mapSlots_slotsSafe h fun x => by cases x <;> simp [Slot.dropShowing, Slot.isFilling, Slot.isReady, Slot.isShowing]

theorem onFilling_slotsSafe {r : Ring} (g : Frame → Frame) (h : slotsSafe r.slots.toList) :
    slotsSafe (r.mapSlots (Slot.onFilling g)).slots.toList :=
  mapSlots_slotsSafe h fun x => by cases x <;> simp [Slot.onFilling, Slot.isFilling, Slot.isReady, Slot.isShowing]

/-- A claim moves READY to SHOWING, and the earlier SHOWING to FREE (R29). -/
theorem claim_slotsSafe {r : Ring} (h : slotsSafe r.slots.toList) : slotsSafe r.claim.slots.toList := by
  unfold Ring.claim
  split
  · rw [slots_toList, slotsSafe_iff] at h
    rw [mapSlots_toList, slotsSafe_iff]
    have hf : ∀ x : Slot, x.dropShowing.showReady.isFilling.toNat = x.isFilling.toNat ∧
        x.dropShowing.showReady.isReady.toNat = 0 ∧ x.dropShowing.showReady.isShowing.toNat = x.isReady.toNat := by
      intro x
      cases x <;> simp [Slot.dropShowing, Slot.showReady, Slot.isFilling, Slot.isReady, Slot.isShowing]
    have h0 := hf r.slots[0]
    have h1 := hf r.slots[1]
    have h2 := hf r.slots[2]
    omega
  · exact h

/-- An acceptance moves FILLING to READY, and the earlier READY to FREE (R27). -/
theorem accept_slotsSafe {r : Ring} (p : PortItems) (now timeBase : Nat) (h : slotsSafe r.slots.toList) :
    slotsSafe (r.accept p now timeBase).slots.toList := by
  have e : (r.accept p now timeBase).slots =
      (r.mapSlots fun x => x.dropReady.acceptFilling ((r.acceptCount + 1) % 4294967296) timeBase).slots := rfl
  rw [slots_toList, slotsSafe_iff] at h
  rw [e, mapSlots_toList, slotsSafe_iff]
  generalize (r.acceptCount + 1) % 4294967296 = n
  have hf : ∀ x : Slot, (x.dropReady.acceptFilling n timeBase).isFilling.toNat = 0 ∧
      (x.dropReady.acceptFilling n timeBase).isReady.toNat = x.isFilling.toNat ∧
      (x.dropReady.acceptFilling n timeBase).isShowing.toNat = x.isShowing.toNat := by
    intro x
    cases x <;> simp [Slot.dropReady, Slot.acceptFilling, Slot.isFilling, Slot.isReady, Slot.isShowing]
  have h0 := hf r.slots[0]
  have h1 := hf r.slots[1]
  have h2 := hf r.slots[2]
  omega

theorem flushed_slotsSafe (p : PortItems) (now : Nat) (live : Bool) :
    slotsSafe (Ring.flushed p now live).slots.toList := by
  rw [slots_toList]
  simp [Ring.flushed, slotsSafe_iff, Slot.isFilling, Slot.isReady, Slot.isShowing]

/-- Measuring a period touches no slot. -/
@[simp] theorem measure_slots (r : Ring) (p : PortItems) (now : Nat) : (r.measure p now).slots = r.slots := by
  unfold Ring.measure
  split <;> rfl

/-- A slot is in exactly one of the four states. -/
theorem slot_counts (x : Slot) :
    x.isFree.toNat + x.isFilling.toNat + x.isReady.toNat + x.isShowing.toNat = 1 := by
  cases x <;> rfl

/-- A slot that turns from FREE to FILLING in a ring without one keeps R24, at each of the three places. -/
theorem fill_slotsSafe {v : Vector Slot 3} (i : Fin 3) (f : Frame) (h : slotsSafe v.toList)
    (none0 : v[0].isFilling = false) (none1 : v[1].isFilling = false) (none2 : v[2].isFilling = false) :
    slotsSafe (v.set i (.filling f)).toList := by
  rw [slots_toList, slotsSafe_iff] at h ⊢
  have f0 : (Slot.filling f).isFilling = true := rfl
  have f1 : (Slot.filling f).isReady = false := rfl
  have f2 : (Slot.filling f).isShowing = false := rfl
  fin_cases i <;> simp [f0, f1, f2, none0, none1, none2] at h ⊢ <;> omega

/-- A ring in which no slot is FILLING opens a frame and keeps R24: a FREE slot always exists (R26). -/
theorem openFrame_reject {r : Ring} (number : Byte) (h : slotsSafe r.slots.toList) :
    ∃ t, (r.reject).openFrame number = some t ∧ slotsSafe t.slots.toList := by
  have hs := reject_slotsSafe h
  have drop : ∀ x : Slot, x.dropFilling.isFilling = false := fun x => by cases x <;> rfl
  have e0 : r.reject.slots[0].isFilling = false := by simp [Ring.reject, Ring.mapSlots, drop]
  have e1 : r.reject.slots[1].isFilling = false := by simp [Ring.reject, Ring.mapSlots, drop]
  have e2 : r.reject.slots[2].isFilling = false := by simp [Ring.reject, Ring.mapSlots, drop]
  generalize r.reject = q at hs e0 e1 e2
  have open_ (i : Fin 3) (hi : q.lowest Slot.isFree = some i) :
      ∃ t, q.openFrame number = some t ∧ slotsSafe t.slots.toList :=
    ⟨_, by unfold Ring.openFrame; rw [hi]; rfl, fill_slotsSafe i _ hs e0 e1 e2⟩
  cases hl : q.lowest Slot.isFree with
  | some i => exact open_ i hl
  | none =>
    unfold Ring.lowest at hl
    have c := (slotsSafe_iff _ _ _).1 (slots_toList q.slots ▸ hs)
    have h0 := slot_counts q.slots[0]
    have h1 := slot_counts q.slots[1]
    have h2 := slot_counts q.slots[2]
    split at hl
    · cases hl
    split at hl
    · cases hl
    split at hl
    · cases hl
    rename_i n0 n1 n2
    simp only [Bool.not_eq_true] at n0 n1 n2
    simp only [n0, n1, n2, e0, e1, e2, Bool.toNat_false] at h0 h1 h2 c
    omega

end Sys2Proof.Machine
end

