-- ==== Sys2Proof/Laws/Step.lean ====
section
/-! SUPPORT. Laws/Step.lean: what a step can do: it runs the command in front, or, on an empty queue, it runs a command
that is due or lets time pass. Every invariant of `step` follows from the same fact about `exec`. -/

set_option Elab.async false

namespace Sys2Proof.Machine

theorem step_front (s : State) (c : Instr) (rest : List Instr) (h : s.pending = c :: rest) :
    step s = exec c { s with pending := rest } := by
  simp [step, h]

theorem step_empty (s : State) (h : s.pending = []) : step s = idleStep s := by
  simp [step, h]

/-- What a step on an empty queue can do. -/
theorem idle_cases {s t : State} (h : idleStep s = .next t) :
    t = s ∨ t = { s with clock := s.clock + 1 } ∨ (∃ c, exec c s = .next t) ∨
    ∃ c, exec c { s with freeCount := s.freeCount + 1 } = .next t := by
  unfold idleStep at h
  split at h
  · split at h
    · injection h with h
      exact .inr (.inl h.symm)
    · exact .inr (.inr (.inl ⟨_, h⟩))
    · exact .inr (.inr (.inr ⟨_, h⟩))
  · injection h with h
    exact .inl h.symm

/-- A property of states that every command keeps, and that does not look at the queue, the clock or the counter of free
values, is kept by every step. -/
theorem step_keeps {P : State → Prop}
    (hq : ∀ s q, P s → P { s with pending := q })
    (hc : ∀ s n, P s → P { s with clock := n })
    (hf : ∀ s n, P s → P { s with freeCount := n })
    (hx : ∀ c s t, P s → exec c s = .next t → P t)
    {s t : State} (hs : P s) (h : step s = .next t) : P t := by
  unfold step at h
  split at h
  · exact hx _ _ _ (hq _ _ hs) h
  · rcases idle_cases h with rfl | rfl | ⟨c, hc'⟩ | ⟨c, hc'⟩
    · exact hs
    · exact hc _ _ hs
    · exact hx _ _ _ hs hc'
    · exact hx _ _ _ (hf _ _ hs) hc'

end Sys2Proof.Machine
end

