-- ==== Sys2Proof/Tests/Slice0.lean ====
section
/-! SUPPORT. Tests/Slice0.lean: the smoke tests of WellFormed, the manual's worked examples with the figures it prints, and for every
statement a concrete state and operands that meet its hypotheses (the clauses one by one, at the ends of their ranges). -/
namespace Sys2Proof.Tests
open Sys2Proof Sys2Proof.Machine

set_option Elab.async false

/-! ### Small states -/

/-- A header with a payload of `n` bytes. -/
def hd (n : Nat) : Header := ⟨0x31#8, n⟩

/-- The reset state with camera 0 changed. -/
def cam0 (f : Cam → Cam) : State := State.reset.onCam 0 f

/-- The reset state with camera 0 in a link state. -/
def linked (l : LinkState) : State := cam0 fun c => { c with port := { c.port with link := l } }

/-- The reset state with the output in a state. -/
def shown (o : OutputState) (hold : Bool) (staged : Option Timing) : State :=
  { State.reset with disp := { State.reset.disp with
    state := o, holdPending := hold, staged := staged, holdTimer := some 7, settleTimer := some 7 } }

/-- A frame with no damage and one row of one pixel. -/
def oneRow (n : Nat) : Frame := ⟨⟨some n, 5, some 3, ⟨0, 0, 0, []⟩⟩, [[rgb 9 8 7]]⟩

/-- One slot in each state but FREE. -/
def busySlots : Vector Slot 3 :=
  Vector.ofFn fun i : Fin 3 => if i = 0 then .filling (oneRow 0) else if i = 1 then .ready (oneRow 1) else .showing (oneRow 2)

/-- A camera in LOCKED with a frame open and one slot in each state, its frame 2 lines high. -/
def busyCam : State := cam0 fun c => { c with
  port := { c.port with
    link := .locked, frameOpen := true, expectedLine := 1
    config := { c.port.config with items := { factoryPortItems with width := 1, height := 2 } } }
  ring := { c.ring with slots := busySlots } }

/-- The reset state with a 3 by 3 mesh loading in slot 2, `held` rows in. -/
def loading (held : Nat) : State := { State.reset with mesh :=
  ⟨State.reset.mesh.slots.set 2 (.loading 3 3 (List.replicate held [⟨0, 0⟩, ⟨0, 0⟩, ⟨0, 0⟩])), some ⟨2, held, 400⟩⟩ }

/-- A BOX as carried. -/
def box : PrimFields := ⟨some (.box 680 30 60 40), rgb 255 255 255, 6, some .steady, .always⟩

/-- The whole canvas from camera 1, as carried. -/
def wholeTile : TileFields := ⟨1, 0, 0, 1280, 800, some .linear, 0, 0, 1280, 960, 99, some true, rgb 0 0 0⟩

/-- An entry that waits for S0. -/
def entryS0 (st : EntryState) : Entry := ⟨⟨[⟨0, true⟩], 0, 3000, 1500, 0⟩, st⟩

/-- The reset state with the entry 3 in a state. -/
def entered (st : EntryState) : State :=
  { State.reset with sel := { State.reset.sel with entries := State.reset.sel.entries.set 3 (some (entryS0 st)) } }

/-- The reset state with an override. -/
def overridden (t : Timer) : State := { State.reset with sel := { State.reset.sel with override := some ⟨0, 1, 5000, t⟩ } }

/-- The reset state with a reply owed. -/
def owing (type : Byte) (tx : Transmitter) : State :=
  { State.reset with link := { State.reset.link with owed := some ⟨type, 0x31#8, .ok, .nothing, 10⟩, tx := tx } }

/-- The reset state with profile slot 0 changed and a save in progress or not. -/
def stored (x : ProfileSlot) (save : Option Save) : State :=
  { State.reset with prf := ⟨State.reset.prf.slots.set 0 x, save⟩ }

/-- A signal configuration as carried: every signal MESSAGE. -/
def carriedSignals (timeout : Nat) : SignalConfigFields :=
  ⟨Vector.replicate 16 ⟨.message, some .hold, timeout⟩, Vector.replicate 6 ⟨some .activeHigh, 50⟩, 500, 15, 0⟩

/-- The state `exec` answers with, if it answers one. -/
def after (c : Instr) (s : State) : Option State :=
  match exec c s with
  | .next t => some t
  | _ => none

/-! ### WellFormed refuses an ill-formed term of each kind -/

theorem test_wellformed_header : Instr.wellFormed (.identify (hd 249)) = false := by decide
theorem test_wellformed_byte : Instr.wellFormed (.cameraEnable (hd 1) 256) = false := by decide
theorem test_wellformed_port_items :
    Instr.wellFormed (.setCameraConfig (hd 21) 0 { factoryPortItems with width := 65536 }) = false := by decide
theorem test_wellformed_meter_items :
    Instr.wellFormed (.setMetering (hd 20) 0 { factoryMeterItems with gate := .signal 256 }) = false := by decide
set_option maxRecDepth 4000 in
theorem test_wellformed_rows : Instr.wellFormed (.meshRows (hd 248) 0 0 (List.replicate 247 0)) = false := by decide
theorem test_wellformed_tile :
    Instr.wellFormed (.defineView (hd 24) 0 1 [{ wholeTile with x := 65536 }]) = false := by decide
theorem test_wellformed_prim :
    Instr.wellFormed (.overlayAppend (hd 20) 0 1 [{ box with geometry := some (.line (-32769) 0 0 0 1) }]) = false := by
  decide
theorem test_wellformed_show :
    Instr.wellFormed (.overlayAppend (hd 20) 0 1 [{ box with showWhen := .onSignal 256 none }]) = false := by decide
theorem test_wellformed_entry :
    Instr.wellFormed (.setSelectionEntry (hd 11) 0 ⟨1, [⟨256, none⟩], 0, 0, 0, 0⟩) = false := by decide
theorem test_wellformed_signals :
    Instr.wellFormed (.setSignalConfig (hd 112) (carriedSignals 65536)) = false := by decide
theorem test_wellformed_parts :
    Instr.wellFormed (.readView (hd 3) 0 (.overlays 256)) = false ∧
    Instr.wellFormed (.readSelection (hd 2) (.entries 256)) = false := by decide
theorem test_wellformed_override : Instr.wellFormed (.overrideView (hd 6) 0 0 4294967296) = false := by decide
set_option maxRecDepth 4000 in
theorem test_wellformed_bytes : Instr.wellFormed (.linkGap (List.replicate 254 0)) = false := by decide
theorem test_wellformed_good :
    Instr.wellFormed (.defineView (hd 24) 0 1 [wholeTile]) = true ∧
    Instr.wellFormed (.setSignalConfig (hd 112) (carriedSignals 5000)) = true := by decide

/-! ### The manual's figures -/

/-- No word spells a command (assumption 1). -/
theorem test_decode : decodeTableWord 8 0x11 = none ∧ State.reset.withFetchWord 8 0x11 = State.reset := by decide

set_option maxRecDepth 8000 in
/-- R165: power applied to a part with EMPTY profile slots and low straps gives the reset state. -/
theorem test_power_on_gives_reset :
    after (.powerOnReset false false) { State.reset with powered := false, clock := 77 } = some State.reset := by decide

/-- 1.3.2: attempt 3 of the sweep, start 10 and width 7; attempt 1, start 0 and width 3, no wrap. -/
theorem test_window : windowOf (tabulate fun i : Fin 32 =>
      if (4 ≤ i.val ∧ i.val ≤ 8) ∨ (10 ≤ i.val ∧ i.val ≤ 16) ∨ (20 ≤ i.val ∧ i.val ≤ 26) then .pass else .fail)
      = (some 10, 7) ∧
    windowOf (tabulate fun i : Fin 32 => if i.val ≤ 2 ∨ 29 ≤ i.val then .pass else .fail) = (some 0, 3) := by decide

/-- R10: sixteen factory words from slot 2 on pass; one wrong word fails. -/
theorem test_phase :
    let good : List (BitVec 10) := (List.range 16).map fun i => BitVec.ofNat 10 (PortItems.trainingWord factoryPortItems ((i + 2) % 4))
    judgePhase factoryPortItems good = .pass ∧ judgePhase factoryPortItems (good.dropLast ++ [0]) = .fail := by decide

/-- 2.8: eight intervals of 400 give E 400, a rate out of range and a stale limit of 120 ms. -/
theorem test_rate :
    let r : Ring := { resetCam.ring with intervals := List.replicate 8 400 }
    r.estimate 333 = 400 ∧ r.rateOut factoryPortItems = true ∧ r.staleLimit 333 = 120 := by decide

/-- R46: a pixel of (200, 100, 50) has luma 124. -/
theorem test_luma : luma (rgb 200 100 50) = 124 := by decide

/-- 3.4.1: from 128 with M = 70 the gain steps by 8, from 200 by 5, and stays at 205. -/
theorem test_gain : gainStep factoryMeterItems 70 128 = 136 ∧ gainStep factoryMeterItems 70 200 = 205 ∧
    gainStep factoryMeterItems 70 205 = 205 ∧ gainStep factoryMeterItems 71 205 = 202 ∧
    gainStep { factoryMeterItems with gainMax := 192 } 70 192 = 192 := by decide

/-- 3.5.1: the history's clarity. -/
theorem test_clarity : clarityOf [.obscured, .degraded, .clear] = .degraded ∧
    clarityOf [.clear, .obscured, .obscured] = .obscured ∧ clarityOf [.degraded, .clear] = .unassessed := by decide

/-- 5.5.1: the guide line's columns 101, 102 and 110, and the crew mark cut off at the canvas edge. -/
theorem test_line :
    let l := fun X Y : Int => Geometry.covers (.line 100 700 110 696 3) X Y
    l 101 699 = true ∧ l 101 702 = false ∧ l 102 698 = true ∧ l 102 701 = false ∧ l 110 697 = true ∧ l 111 696 = false ∧
    Geometry.covers (.glyph 1270 20 7 2) 1280 30 = false := by decide

/-- 6.6: the mesh position, the sample, the gain and the overlay of the worked pixel. -/
theorem test_pixel :
    let row := fun a b : Node => [(⟨0, 0⟩ : Node), a, b]
    meshCoord [row ⟨0, 0⟩ ⟨0, 0⟩, row ⟨2000, 1200⟩ ⟨2560, 1210⟩, row ⟨2016, 1712⟩ ⟨2580, 1730⟩] 60 45 = (2498, 1420) ∧
    bilinear 2 12 100 120 110 140 = 111 ∧ applyGain 205 111 = 178 ∧ applyGain 255 255 = 255 ∧
    blend 6 (rgb 255 255 255) (rgb 178 178 178) = rgb 207 207 207 ∧
    outsideFrame 20465 0 1280 960 = true ∧ outsideFrame 20464 0 1280 960 = false := by decide

/-- R105: tile B's second column and line. -/
theorem test_linear : linearCoord 0 1280 640 1 = 32 ∧ linearCoord 160 800 800 1 = 2576 := by decide

/-- 8.2.1: the bouncing reverse lamp. -/
theorem test_debounce :
    let items : WireItems := ⟨.activeHigh, 20⟩
    let d := Debouncer.change ⟨false, false, none, 0⟩ items true 900000
    d.timer = some 906000 ∧ (d.change items false 901200).timer = none ∧
    ((d.change items false 901200).change items true 901800).timer = some 907800 ∧ d.expire.accepted = true := by decide

/-- 9.3: R of the kerb view is 2300 when its dwell has 2300 ms left. -/
theorem test_release : releaseTime (entryS0 .held).config true 700 = 2300 ∧
    releaseTime (entryS0 .held).config true 3000 = 1500 ∧ releaseTime (entryS0 .held).config false 0 = 1500 := by decide

/-- 10.3.1: the sixteenth entry, the overflow and its count. -/
theorem test_overflow :
    let q := List.replicate 15 (⟨.linkCheck, 0, 0⟩ : ErrorEntry)
    let q16 := pushError q ⟨.meshSequence, 2, 40210⟩
    let o := pushError q16 ⟨.linkGap, 3, 40300⟩
    q16.length = 16 ∧ o = q ++ [⟨.queueOverflow, 2, 40300⟩] ∧
    pushError o ⟨.linkCheck, 0, 40310⟩ = q ++ [⟨.queueOverflow, 3, 40300⟩] := by decide

/-- R1, R168: the check over no byte and over one zero byte, worked out by hand from the polynomial. -/
theorem test_check : crc16 [] = 0xFFFF#16 ∧ crc16 [0x00#8] = 0xE1F0#16 := by decide

/-- R174: a SIGNAL_UPDATE's mask, values and speed, and a MESH_ROWS of one node at (-1, 258); a node cut short is none. -/
theorem test_layouts :
    signalUpdateOf [0x01, 0x02, 0x80, 0x00, 0x07] = some ⟨0x0102, 0x8000, some 7⟩ ∧
    signalUpdateOf [0x01, 0x02, 0x80, 0x00] = some ⟨0x0102, 0x8000, none⟩ ∧ signalUpdateOf [1, 2, 3] = none ∧
    meshRowsOf [0x02, 0x05, 0xFF, 0xFF, 0x01, 0x02] = some ⟨2, 5, [⟨-1, 258⟩]⟩ ∧ meshRowsOf [2, 5, 0, 0, 0] = none ∧
    meshRowsOf [2, 5] = some ⟨2, 5, []⟩ := by decide

/-- R167: 0xC5 on the line, least significant bit first between a start bit and a stop bit. -/
theorem test_character :
    characterBits 0xC5#8 = [false, true, false, true, false, false, false, true, true, true] := by decide

/-- 11.7: OUTPUT_HOLD is answered with type 0xC2; a collision with READ_SIGNALS's reply has detail 0xBA. -/
theorem test_reply_types : replyType 0x42#8 = 0xC2#8 ∧ replyType 0x3A#8 = 0xBA#8 := by decide

/-! ### Hypotheses that something meets, statement by statement

Each theorem is named after its obligation. `A` is the state in which a request is handled (`frameArrives`). -/

theorem test_meets_StepRunsFrontCommand :
    ({ State.reset with pending := [.powerLoss, .replyEnd] } : State).pending = [.powerLoss, .replyEnd] := by decide

set_option maxRecDepth 4000 in
theorem test_meets_EventEndLatchesAndRaisesAttn :
    let t := (shown .hold false none).settle
    t.sts.conditions = 0x00300000#32 ∧ t.sts.events = 0x80200000#32 ∧ t.sts.attn = true := by decide

set_option maxRecDepth 4000 in
theorem test_meets_EmptyQueueLetsTimePass :
    State.reset.pending = [] ∧ ({ State.reset with powered := false } : State).powered = false ∧
    State.reset.dueCommands = [] ∧ Instr.noticeStart ∉ ({ State.reset with clock := 899 } : State).dueCommands ∧
    ({ State.reset with clock := 900 } : State).dueCommands = [.noticeStart] ∧
    ({ State.reset with clock := 5000 } : State).dueCommands = [.outputFrameStart, .noticeStart] := by decide

theorem test_meets_PowerOnChoosesConfiguration (p : Profile) :
    State.reset.prf.slots[0] = .empty ∧ (stored .invalid none).prf.slots[0] = .invalid ∧
    (stored .empty (some ⟨0, factoryProfile⟩)).prf.save = some ⟨0, factoryProfile⟩ ∧
    (stored .empty (some ⟨3, factoryProfile⟩)).prf.save = some ⟨3, factoryProfile⟩ ∧
    (∃ check, Config.profileCheck p = check ∧ (stored (.valid p check) none).prf.slots[0] = .valid p check) ∧
    (∃ check, Config.profileCheck p ≠ check ∧ (stored (.valid p check) none).prf.slots[0] = .valid p check) :=
  ⟨rfl, rfl, rfl, rfl, ⟨_, rfl, rfl⟩, ⟨Config.profileCheck p + 1, by bv_omega, rfl⟩⟩

theorem test_meets_ResetLeavesEveryBlock (p : Profile) :
    (∃ t, exec (.powerOnReset true true) State.reset = .next t) ∧
    State.reset.prf.slots[0] = .empty ∧ (stored .invalid none).prf.slots[0] = .invalid ∧
    (∃ check, Config.profileCheck p = check ∧ (stored (.valid p check) none).prf.slots[0] = .valid p check) ∧
    (∃ check, Config.profileCheck p ≠ check ∧ (stored (.valid p check) none).prf.slots[0] = .valid p check) ∧
    (stored .empty (some ⟨3, p⟩)).prf.save = some ⟨3, p⟩ ∧
    factoryProfile.outputEnable = true ∧ ({ factoryProfile with outputEnable := false }).outputEnable = false ∧
    (∃ t, exec (.collision 0xC5#8 true) (owing 0x82#8 .idle) = .next t) ∧
    (owing 0x82#8 .reply).powered = true ∧ (owing 0x82#8 .reply).link.owed = some ⟨0x82#8, 0x31#8, .ok, .nothing, 10⟩ ∧
    (owing 0x82#8 .reply).link.tx = .reply ∧ ∃ t, exec .replyEnd (owing 0x82#8 .reply) = .next t :=
  ⟨⟨_, rfl⟩, rfl, rfl, ⟨_, rfl, rfl⟩, ⟨Config.profileCheck p + 1, by bv_omega, rfl⟩, rfl, rfl, rfl, ⟨_, rfl⟩, rfl, rfl, rfl,
    ⟨_, rfl⟩⟩

set_option maxRecDepth 8000 in
/-- R165, R166: with slot 0 INVALID the reset latches RESTARTED, PROFILE_FAULT and, by the error entry, ERROR_PENDING. -/
theorem test_reset_reports :
    let t := after (.powerOnReset false true) (stored .invalid none)
    t.map (fun t => t.sts.events) = some 0xA4000000#32 ∧
    (after (.powerOnReset false true) State.reset).map (fun t => t.sts.events) = some 0x80000000#32 := by decide

theorem test_meets_SoftResetAtReplyEnd (p : Profile) :
    let s := owing 0x82#8 .reply
    s.powered = true ∧ s.link.owed = some ⟨0x82#8, 0x31#8, .ok, .nothing, 10⟩ ∧ s.link.tx = .reply ∧ s.prf.save = none ∧
    s.prf.slots[0] = .empty ∧ s.link.noticePending = true ∧
    ({ s with prf := (stored .invalid none).prf } : State).prf.slots[0] = .invalid ∧
    (∃ check, Config.profileCheck p ≠ check ∧
      ({ s with prf := (stored (.valid p check) none).prf } : State).prf.slots[0] = .valid p check) ∧
    ({ s with prf := (stored .empty (some ⟨3, p⟩)).prf } : State).prf.save = some ⟨3, p⟩ :=
  ⟨rfl, rfl, rfl, rfl, rfl, rfl, rfl, ⟨Config.profileCheck p + 1, by bv_omega, rfl⟩, rfl⟩

set_option maxRecDepth 8000 in
/-- R178: a byte 0xC5 drops the reply of an accepted RESET_PART and begins a frame after the reset. -/
theorem test_reset_at_collision :
    let t := after (.collision 0xC5#8 false) (owing 0x82#8 .idle)
    t.map (fun t => t.link.rx) = some ⟨.length, [0xC5#8], none⟩ ∧
    t.map (fun t => t.sts.errors) = some [⟨.linkCollision, 0x82, 0⟩] ∧
    t.map (fun t => t.link.counters) = some ⟨0, 0, 0, 0, 0, 0⟩ ∧
    (owing 0x82#8 .idle).frameArrives.link.counters = ⟨1, 0, 0, 0, 0, 0⟩ := by decide

theorem test_meets_PowerLossCutsTheWrite :
    State.reset.powered = true ∧ State.reset.prf.save = none ∧
    (stored .empty (some ⟨3, factoryProfile⟩)).prf.save = some ⟨3, factoryProfile⟩ ∧
    ({ State.reset with powered := false } : State).powered = false ∧
    (∀ n level, Instr.powerLoss ≠ .rawChange n level) := ⟨rfl, rfl, rfl, rfl, nofun⟩

theorem test_meets_RequestFrameArrival :
    State.reset.link.owed = none ∧ State.reset.link.tx = .idle ∧ State.reset.sig.standby = false ∧
    (owing 0x91#8 .idle).link.owed = some ⟨0x91#8, 0x31#8, .ok, .nothing, 10⟩ ∧ (0x91#8 : Byte) ≠ 0x82#8 ∧
    (owing 0x82#8 .idle).link.owed = some ⟨0x82#8, 0x31#8, .ok, .nothing, 10⟩ ∧
    (owing 0x91#8 .idle).sig.standby = false := by decide

set_option maxRecDepth 8000 in
/-- R173: a frame that meets a notice drops it: its counter, its error entry and one frame received. -/
theorem test_frame_meets_notice :
    let s : State := { State.reset with link := { State.reset.link with tx := .notice ⟨0, 0, 0⟩ } }
    s.link.owed = none ∧ s.link.tx ≠ .idle ∧ s.frameArrives.sts.errors = [⟨.linkCollision, 0x7E, 0⟩] ∧
    s.frameArrives.link.counters = ⟨1, 0, 0, 0, 0, 1⟩ := by decide

/-- A part in standby with camera 0 powered down and carrier present. -/
def asleep : State :=
  let s := cam0 fun c => { c with port := { c.port with carrier := true, linkPower := false, wasEnabled := true } }
  { s with sig := { s.sig with standby := true }, disp := { s.disp with state := .off } }

theorem test_meets_FrameWakesThePart :
    asleep.powered = true ∧ asleep.disp.enable = true ∧ asleep.sig.standby = true ∧ asleep.link.owed = none ∧ asleep.link.tx = .idle ∧
    (hd 0).len = 0 ∧ asleep.disp.state = .off ∧ asleep.cams[0].port.wasEnabled = true ∧
    asleep.cams[1].port.wasEnabled = false := by decide

theorem test_meets_UnknownOrWrongLengthRefused :
    State.reset.powered = true ∧ (0x03#8 : Byte) ∉ requestTypes ∧ (hd 1).len ≠ 0 ∧ (hd 0).len ≠ 1 ∧ (hd 2).len ≠ 1 ∧
    (hd 20).len ≠ 21 ∧ (hd 21).len ≠ 20 ∧ (hd 2).len ≠ 3 ∧ (hd 5).len ≠ 6 ∧ (hd 1).len ≠ 2 ∧ (hd 111).len ≠ 112 ∧
    (hd 3).len ≠ 4 ∧ (hd 3).len ≠ 2 + List.length ([] : List Byte) ∧ ¬4 ∣ List.length ([7] : List Byte) ∧ 248 < (hd 250).len ∧
    (hd 24).len ≠ 2 + 22 * List.length ([] : List TileFields) ∧ (1 : Nat) ≠ List.length ([] : List PrimFields) ∧
    (hd 10).len ≠ 9 + 2 * List.length ([⟨0, some true⟩] : List TermFields) := by decide

theorem test_meets_CarrierPresentBeginsSweep :
    State.reset.cams[0].port.link = .down ∧ State.reset.cams[0].port.linkPower = true ∧
    (linked .failed).cams[0].port.link ≠ .down ∧ asleep.cams[0].port.linkPower = false := by decide

/-- The output running with camera 1's READY frame just claimed and the factory view latched. -/
def composing : State :=
  let s := shown .running false none
  let t := s.onCam 1 fun c => { c with ring := { c.ring with slots := c.ring.slots.set 2 (.ready (oneRow 7)) } }
  (after .outputFrameStart t).getD t

theorem test_meets_FlushWithdrawsTheReference :
    State.reset.comp.context = none ∧
    (composing.comp.context.map fun ctx => (ctx.slotRefs[1].isSome, ctx.slotRefs[0].isSome,
      (ctx.frame.cams[1].map fun l => l.withdrawnAt), ctx.frame.cams[0].isSome)) = some (true, false, some none, false) := by
  decide

theorem test_meets_CarrierLostEntersDown :
    (linked .training).cams[0].port.link = .training ∧ (linked .locked).cams[0].port.link = .locked ∧
    (linked .failed).cams[0].port.link = .failed ∧ (linked .disabled).cams[0].port.link = .disabled ∧
    (linked .down).cams[0].port.link = .down := by decide

/-- Camera 0 in TRAINING at a phase with some words taken and with phases 0 to n passed. -/
def sweep (phase words passed : Nat) : State := cam0 fun c => { c with port := { c.port with
  link := .training, phase := phase, words := List.replicate words 0x3C5#10, wordTimer := some 60000
  record := { c.port.record with passMap := tabulate fun i : Fin 32 => if i.val < passed then .pass else .fail } } }

set_option maxRecDepth 4000 in
theorem test_meets_TrainingWordTaken :
    let p := fun phase words passed => (sweep phase words passed).cams[0].port
    State.reset.cams[0].port.link ≠ .training ∧ (p 0 0 0).link = .training ∧ (p 0 14 0).words.length < 15 ∧
    (p 0 15 0).words.length = 15 ∧ (p 30 15 0).phase < 31 ∧ (p 31 15 4).phase = 31 ∧
    (let r := fun n => (windowOf ((p 31 15 n).record.passMap.set 31 (judgePhase factoryPortItems ((p 31 15 n).words ++ [0])))).2
     factoryPortItems.minWindow ≤ r 4 ∧ r 3 < factoryPortItems.minWindow) := by decide

theorem test_meets_CameraTimersExpire :
    (sweep 0 0 0).cams[0].port.link = .training ∧ (sweep 0 0 0).cams[0].port.wordTimer = some 60000 ∧
    State.reset.cams[0].port.link ≠ .training ∧ State.reset.cams[0].port.wordTimer = none ∧
    State.reset.cams[0].ring.lostTimer = some 300000 ∧ State.reset.cams[0].ring.staleTimer = none ∧
    (cam0 fun c => { c with ring := { c.ring with staleTimer := some 30000, lostTimer := none } }).cams[0].ring.staleTimer
      = some 30000 ∧
    (cam0 fun c => { c with ring := { c.ring with lostTimer := none } }).cams[0].ring.lostTimer = none := by decide

theorem test_meets_TrainingJudgedByItsWords :
    factoryPortItems.wordsDiffer = true ∧ (List.replicate 16 (0 : BitVec 10)).length = 16 ∧
    (∀ i : Fin 32, State.reset.cams[0].port.record.passMap[i] ≠ .pass) ∧
    (sweep 0 0 1).cams[0].port.record.passMap[0] = .pass := by decide

theorem test_meets_FrameStartOpensASlot :
    State.reset.cams[0].port.link ≠ .locked ∧ (linked .locked).cams[0].port.link = .locked ∧
    slotsSafe (linked .locked).cams[0].ring.slots.toList ∧ slotsSafe busySlots.toList := by
  unfold slotsSafe; decide

set_option maxRecDepth 8000 in
theorem test_meets_LinePlacedByItsIndex :
    let c := busyCam.cams[0]
    let check := crc16 ([0, 1] ++ [9, 8, 7])
    c.port.link = .locked ∧ c.port.frameOpen = true ∧ c.port.expectedLine = 1 ∧ c.port.config.items.height = 2 ∧
    c.port.config.items.width = 1 ∧ State.reset.cams[0].port.frameOpen = false ∧
    crc16 ([((1#16 >>> 8).truncate 8), (1#16).truncate 8] ++ [rgb 9 8 7].flatMap fun q => [q.r, q.g, q.b]) = check ∧
    check + 1 ≠ check := by decide

theorem test_meets_RepairUsesTheNewestFrame :
    slotsSafe busySlots.toList ∧ busySlots[0] = .filling (oneRow 0) ∧ busySlots[1] = .ready (oneRow 1) ∧
    (oneRow 1).rows[0]? = some [rgb 9 8 7] ∧ (oneRow 1).rows[1]? = none ∧ (oneRow 0).rows[0]? = some [rgb 9 8 7] ∧
    (let alone : Vector Slot 3 := (Vector.replicate 3 .free).set 0 (.filling (oneRow 0))
     slotsSafe alone.toList ∧ alone[1] = .free ∧ alone[2] = .free) := by
  unfold slotsSafe; decide

set_option maxRecDepth 8000 in
theorem test_meets_FrameEndJudgesTheFrame :
    let c := busyCam.cams[0]
    let d := c.repairLines 1 1
    c.port.link = .locked ∧ c.port.frameOpen = true ∧
    (d.ring.fillingFrame.map fun f => (f.record.repair.damaged, f.record.repair.longest)) = some (1, 1) ∧
    (1 ≤ factoryPortItems.damageLimit ∧ 1 ≤ factoryPortItems.runLimit) ∧ ¬(1 ≤ ({ factoryPortItems with damageLimit := 0 }).damageLimit) ∧
    d.port.rejections + 1 < 3 ∧
    3 ≤ (cam0 fun c => { c with port := { c.port with rejections := 2 } }).cams[0].port.rejections + 1 ∧
    State.reset.cams[0].port.link ≠ .locked := by decide

theorem test_meets_RateCheckAndStaleLimit :
    let r := fun n v => ({ resetCam.ring with intervals := List.replicate n v } : Ring)
    (r 7 333).intervals.length < 8 ∧ (r 8 300).intervals.length = 8 ∧ (r 8 366).estimate 333 = 366 ∧
    factoryPortItems.period = 333 ∧ factoryPortItems.rateWindow = 10 ∧ 50 ≤ (3 * (r 8 333).estimate 333 + 5) / 10 ∧
    (3 * (r 8 333).estimate 333 + 5) / 10 ≤ 500 ∧ (3 * (r 8 100).estimate 100 + 5) / 10 ≤ 50 ∧
    500 ≤ (3 * (r 8 2000).estimate 2000 + 5) / 10 := by decide

theorem test_meets_MeanLumaSamplesTheGrid :
    let win : Window := ⟨0, 0, 4, 4⟩
    let rows := List.replicate 4 (List.replicate 4 (rgb 1 2 3))
    4 ∣ win.w ∧ 4 ∣ win.h ∧ win.y + win.h ≤ rows.length ∧ ∀ row ∈ rows, win.x + win.w ≤ row.length := by decide

set_option maxRecDepth 8000 in
/-- R52: in a window of 64 by 24 pixels, two samples a block, only the block of the one bright sample is not low. -/
theorem test_low_blocks :
    let win : Window := ⟨0, 0, 64, 24⟩
    let dark := List.replicate 64 (rgb 9 9 9)
    let rows := (dark.set 4 (rgb 99 99 99)) :: List.replicate 23 dark
    32 ∣ win.w ∧ 24 ∣ win.h ∧ 0 < win.w ∧ 0 < win.h ∧ win.y + win.h ≤ rows.length ∧
    lowBlocks (sampleGrid rows win) win 90 = 47 ∧ lowBlocks (sampleGrid rows win) win 91 = 48 := by decide

theorem test_meets_DueFramesGiveVerdicts :
    let m := fun n dark gate => ({ resetCam.meter with intervalCount := n, config := { factoryMeterItems with
      darkLimit := dark, gate := gate } } : Meter)
    let win := effectiveWindow factoryMeterItems 4 4
    (m 13 0 .ungated).intervalCount + 1 ≠ (m 13 0 .ungated).config.interval ∧
    (m 14 0 .ungated).intervalCount + 1 = (m 14 0 .ungated).config.interval ∧
    (m 14 0 .ungated).config.darkLimit ≤ meanLuma (sampleGrid [] win) win ∧
    meanLuma (sampleGrid [] win) win < (m 14 1 .moving).config.darkLimit ∧
    State.reset.sig.signals[0].value = false ∧ ([] : List Verdict).length < 3 ∧
    (Verdict.clear ≠ .degraded ∧ Verdict.clear ≠ .obscured ∧ Verdict.degraded ≠ .obscured) ∧
    2 ≤ [Verdict.clear, .obscured, .clear].count .clear := by decide

theorem test_acceptable_items : PortItems.acceptable factoryPortItems := by
  simp [PortItems.acceptable, factoryPortItems]

theorem test_unacceptable_items : ¬PortItems.acceptable { factoryPortItems with width := 1281 } := by
  simp [PortItems.acceptable, factoryPortItems]

theorem test_meets_CameraConfigTakenWhole :
    State.reset.powered = true ∧ (hd 21).len = 21 ∧ PortItems.acceptable factoryPortItems ∧
    ¬PortItems.acceptable { factoryPortItems with width := 1281 } ∧ 3 < 4 ∧
    (linked .training).frameArrives.cams[0].port.link = .training ∧
    ¬PortItems.restrictedAgree { factoryPortItems with period := 400 } factoryPortItems ∧
    PortItems.restrictedAgree { factoryPortItems with lostLimit := 5000 } factoryPortItems ∧
    (linked .failed).frameArrives.cams[0].port.link = .failed :=
  ⟨rfl, rfl, test_acceptable_items, test_unacceptable_items, by decide, rfl,
    by simp [PortItems.restrictedAgree, factoryPortItems], by simp [PortItems.restrictedAgree], rfl⟩

theorem test_meets_CameraSwitchedAndRetrained :
    State.reset.powered = true ∧ (hd 1).len = 1 ∧ 3 < 4 ∧
    (linked .disabled).frameArrives.cams[0].port.link = .disabled ∧ (linked .down).frameArrives.cams[0].port.link = .down ∧
    (linked .training).frameArrives.cams[0].port.link = .training ∧
    (linked .locked).frameArrives.cams[0].port.link = .locked ∧
    (linked .failed).frameArrives.cams[0].port.link = .failed := by decide

theorem test_meets_CameraReportReadsOnly :
    slotsSafe busyCam.frameArrives.cams[0].ring.slots.toList ∧ busySlots[1] = .ready (oneRow 1) ∧
    (let old : Vector Slot 3 := (Vector.replicate 3 .free).set 2 (.showing (oneRow 2))
     slotsSafe old.toList ∧ old[2] = .showing (oneRow 2) ∧ old[0] = .free ∧ old[1] = .free) ∧
    State.reset.frameArrives.cams[0].ring.slots[0] = .free := by
  unfold slotsSafe; decide

theorem test_meets_MeteringTakenWhole :
    State.reset.powered = true ∧ (hd 20).len = 20 ∧ MeterItems.acceptable factoryMeterItems 1280 960 ∧
    ¬MeterItems.acceptable factoryMeterItems 1264 960 ∧ MeterItems.windowsAgree factoryMeterItems factoryMeterItems ∧
    MeterItems.clarityAgrees { factoryMeterItems with interval := 30 } factoryMeterItems ∧
    ¬MeterItems.windowsAgree { factoryMeterItems with winW := 640 } factoryMeterItems := by
  simp [MeterItems.acceptable, MeterItems.windowsAgree, MeterItems.clarityAgrees, factoryMeterItems, State.reset, hd]

/-- The reset state with the selected view drawn through mesh slot 2. -/
def meshed : State :=
  let v : View := ⟨[⟨1, 640, 0, 640, 800, .mesh 2, false, rgb 0 0 0⟩], []⟩
  { State.reset with views := State.reset.views.set 0 (some v) }

theorem test_names_mesh : meshed.frameArrives.namesMesh 2 ∧ ¬meshed.frameArrives.namesMesh 3 := by
  constructor
  · exact ⟨⟨1, 640, 0, 640, 800, .mesh 2, false, rgb 0 0 0⟩, .inr (by decide), rfl⟩
  · rintro ⟨t, h, e⟩
    have h1 : meshed.frameArrives.comp.latchedTiles = [] := rfl
    have h2 : meshed.frameArrives.selectedTiles = [⟨1, 640, 0, 640, 800, .mesh 2, false, rgb 0 0 0⟩] := rfl
    rw [h1, h2] at h
    simp at h
    subst h
    simp at e

theorem test_meets_MeshBeginReservesNodes :
    (7 ≤ 7 ∧ 3 ≤ 41 ∧ 41 ≤ 41 ∧ 3 ≤ 26 ∧ 26 ≤ 26) ∧ ¬(8 ≤ 7) ∧ ¬(3 ≤ 2) ∧ (loading 0).frameArrives.mesh.upload ≠ none ∧
    State.reset.frameArrives.mesh.upload = none ∧ meshed.frameArrives.mesh.upload = none ∧
    meshed.frameArrives.namesMesh 2 ∧ ¬meshed.frameArrives.namesMesh 3 ∧
    6144 < (⟨Vector.replicate 8 (.loading 41 26 []), none⟩ : MeshStore).charge ∧
    (⟨(Vector.replicate 8 .free).set 7 (.loading 41 26 []), none⟩ : MeshStore).charge ≤ 6144 :=
  ⟨by decide, by decide, by decide, by decide, rfl, rfl, test_names_mesh.1, test_names_mesh.2, by decide, by decide⟩

theorem test_meets_MeshUploadFollowsItsOrder :
    (hd 14).len = 2 + (List.replicate 12 (0 : Byte)).length ∧ 4 ∣ (List.replicate 12 (0 : Byte)).length ∧
    (hd 1).len = 1 ∧ 7 < (8#8 : Byte).toNat ∧ 7 < 8 ∧
    State.reset.frameArrives.mesh.upload = none ∧
    (loading 2).frameArrives.mesh.upload = some ⟨2, 2, 400⟩ ∧
    (loading 2).frameArrives.mesh.slots[2] = .loading 3 3 (List.replicate 2 [⟨0, 0⟩, ⟨0, 0⟩, ⟨0, 0⟩]) ∧
    (loading 3).frameArrives.mesh.upload = some ⟨2, 3, 400⟩ ∧ (2 < 3 ∧ 3 ≤ 3 ∧ (2 : Fin 8) ≠ 3) := by decide

theorem test_meets_MeshFreedOrAbandoned :
    meshed.frameArrives.namesMesh 2 ∧ ¬meshed.frameArrives.namesMesh 3 ∧ (loading 1).mesh.upload = some ⟨2, 1, 400⟩ ∧
    State.reset.mesh.upload = none ∧ (hd 1).len = 1 ∧ 7 < 8 :=
  ⟨test_names_mesh.1, test_names_mesh.2, rfl, rfl, rfl, by decide⟩

theorem test_acceptable_tile : TileFields.acceptable wholeTile State.reset.frameArrives.cams :=
  ⟨⟨1, rfl, fun _ => by decide⟩, by decide⟩

theorem test_meets_DefineViewTakenWhole :
    (15 ≤ 15 ∧ 1 ≤ [wholeTile].length ∧ [wholeTile].length ≤ 4 ∧
      (∀ f ∈ [wholeTile], TileFields.acceptable f State.reset.frameArrives.cams) ∧
      [wholeTile].Pairwise fun f g => ¬TileFields.overlap f g) ∧
    (hd 24).len = 2 + 22 * [wholeTile].length ∧ (hd 24).len ≤ 248 ∧ ¬(1 ≤ ([] : List TileFields).length) ∧
    TileFields.overlap wholeTile wholeTile :=
  ⟨⟨by decide, by decide, by decide, by simpa using test_acceptable_tile, by simp⟩, rfl, by decide, by decide, by
    unfold TileFields.overlap; decide⟩

theorem test_acceptable_prim : PrimFields.acceptable box ∧ ¬PrimFields.acceptable { box with blink := none } := by
  constructor <;> simp [PrimFields.acceptable, box]

theorem test_meets_OverlayListGrowsAndClears :
    (hd 1).len = 1 ∧ (hd 20).len = 2 + 18 * [box].length ∧ (hd 218).len = 2 + 18 * (List.replicate 12 box).length ∧
    State.reset.frameArrives.views[1] = none ∧ State.reset.frameArrives.views[0] = some factoryView ∧
    (1 ≤ [box].length ∧ [box].length ≤ 12 ∧ ∀ f ∈ [box], PrimFields.acceptable f) ∧ ¬(1 ≤ ([] : List PrimFields).length) ∧
    24 < (List.replicate 24 box ++ [box]).length ∧ (List.replicate 12 box ++ List.replicate 12 box).length ≤ 24 :=
  ⟨rfl, rfl, rfl, rfl, rfl, ⟨by decide, by decide, by simpa using test_acceptable_prim.1⟩, by decide, by decide, by decide⟩

theorem test_meets_ViewsDeletedAndRead :
    State.reset.frameArrives.views[1] = none ∧ State.reset.frameArrives.views[0] ≠ none ∧
    State.reset.frameArrives.sel.defaultView = 0 ∧
    (let s : State := { State.reset with views := State.reset.views.set 15 (some factoryView) }
     s.frameArrives.views[15] ≠ none ∧ s.frameArrives.sel.defaultView ≠ 15 ∧ s.frameArrives.sel.override = none ∧
     s.frameArrives.sel.selected ≠ 15 ∧ s.frameArrives.comp.latchedView ≠ some 15 ∧
     ∀ i : Fin 16, s.frameArrives.sel.entries[i] = none) ∧ (hd 3).len = 3 ∧ 24 ≤ 24 ∧ ¬(24 ≤ 23) := by decide

theorem test_meets_ReevaluationJudgesAndChooses :
    State.reset.sel.entries[3] = none ∧
    (entered .held).sel.entries[3] = some (entryS0 .held) ∧ (entered .held).sig.signals[0].value = false ∧
    (entered (.releasing 2300 none)).sel.entries[3] = some (entryS0 (.releasing 2300 none)) ∧
    (entered (.releasing 2300 (some 9))).sel.entries[3] = some (entryS0 (.releasing 2300 (some 9))) ∧
    State.reset.sig.signals[14].value = true ∧ (overridden none).sel.override = some ⟨0, 1, 5000, none⟩ ∧
    (entered .idle).sel.active ≠ .entry 3 := by decide

theorem test_meets_SelectionRequestsReevaluate :
    let f : EntryFields := ⟨1, [⟨15, some true⟩], 0, 10000, 65535, 0⟩
    f.termCount = f.terms.length ∧ (hd 11).len = 9 + 2 * f.terms.length ∧
    (15 ≤ 15 ∧ 1 ≤ f.terms.length ∧ f.terms.length ≤ 4 ∧ (∀ x ∈ f.terms, x.signal ≤ 15 ∧ x.wanted.isSome = true) ∧
      f.view ≤ 15 ∧ f.dwell ≤ 10000) ∧ ¬((10001 : Nat) ≤ 10000) ∧
    State.reset.frameArrives.views[0] ≠ none ∧ State.reset.frameArrives.views[1] = none ∧ 15 < 16 := by decide

theorem test_meets_OverridesAndReleasesEnd :
    (hd 6).len = 6 ∧ (15 < 16 ∨ 16 < 16) ∧ 16 ≤ 16 ∧ 16 < 17 ∧ State.reset.frameArrives.views[0] ≠ none ∧
    State.reset.frameArrives.views[1] = none ∧ State.reset.frameArrives.sel.override = none ∧
    (overridden none).frameArrives.sel.override ≠ none ∧
    (overridden (some 9)).sel.override = some ⟨0, 1, 5000, some 9⟩ ∧
    (entered (.releasing 2300 (some 9))).sel.entries[3] = some (entryS0 (.releasing 2300 (some 9))) ∧
    (entered .held).sel.entries[3] = some (entryS0 .held) ∧ (EntryState.held ≠ .releasing 2300 (some 9)) := by decide

theorem test_meets_ReportsReadOnly :
    (hd 2).len = 2 ∧ (hd 0).len = 0 ∧ 16 ≤ 16 ∧ 15 < 16 ∧ 12 + 3 < 16 ∧
    (entered (.releasing 2300 (some 9))).frameArrives.sel.entries[3] = some (entryS0 (.releasing 2300 (some 9))) ∧
    (entered (.releasing 2300 none)).frameArrives.sel.entries[3] = some (entryS0 (.releasing 2300 none)) ∧
    (overridden (some 9)).frameArrives.sel.override = some ⟨0, 1, 5000, some 9⟩ ∧
    (overridden none).frameArrives.sel.override = some ⟨0, 1, 5000, none⟩ ∧
    State.reset.frameArrives.prf.save = none ∧
    (stored .empty (some ⟨3, factoryProfile⟩)).frameArrives.prf.save = some ⟨3, factoryProfile⟩ := by decide

theorem test_meets_OutputFramesAndTimersByState :
    (shown .off false none).disp.state = .off ∧ (shown .starting false none).disp.settleTimer = some 7 ∧
    (shown .hold false (some .t2)).disp.holdTimer = some 7 ∧ (shown .hold false (some .t2)).disp.staged = some .t2 ∧
    Timing.t2 ≠ (shown .hold false (some .t2)).disp.current ∧ (shown .hold false (some .t3)).disp.current = .t3 ∧
    (shown .stopping false none).disp.stopToStarting = false ∧
    ({ (shown .stopping false none).disp with stopToStarting := true }).stopToStarting = true ∧
    (shown .running true none).disp.holdPending = true ∧ composing.comp.context.isSome = true := by decide

theorem test_meets_OutputFrameStartComposes :
    let s := shown .running false none
    s.powered = true ∧ s.disp.state = .running ∧ s.disp.holdPending = false ∧
    s.views[s.sel.selected] = some factoryView ∧ s.ringsSafe ∧
    (composing.disp.state = .running ∧ composing.comp.previousView = some 0 ∧
      composing.views[composing.sel.selected] = some factoryView ∧ composing.ringsSafe) := by
  unfold State.ringsSafe slotsSafe; decide

theorem test_meets_OutputRequestsByState :
    (hd 0).len = 0 ∧ (hd 1).len = 1 ∧
    (∀ o : OutputState, o ∈ [.off, .starting, .running, .hold, .stopping] →
      (shown o false none).frameArrives.disp.state = o) ∧
    (shown .running true none).frameArrives.disp.holdPending = true ∧
    (shown .hold false (some .t2)).frameArrives.disp.staged = some .t2 ∧
    State.reset.frameArrives.sig.movingValue = true ∧
    (let s := shown .running false none
     ({ s with sig := { s.sig with config := { s.sig.config with moving := 0 } } } : State).frameArrives.sig.movingValue
      = false) ∧ 3 ≤ 3 ∧ 3 < 4 := by decide

/-- The signal unit of the reset state with S0 true. -/
def s0True : SignalUnit := { State.reset.sig with signals := State.reset.sig.signals.set 0 ⟨true, .none, none⟩ }

/-- The signal unit of the reset state with the wire W0 of the wake set accepted high. -/
def w0High : SignalUnit := { State.reset.sig with
  standby := true, wires := State.reset.sig.wires.set 0 ⟨true, true, none, 0⟩ }

theorem test_meets_SignalChangesAreHandedOn :
    (∀ i : Fin 16, State.reset.sig.signals[i].value = State.reset.sig.signals[i].value) ∧
    s0True.signals[0].value ≠ State.reset.sig.signals[0].value ∧ s0True.standby = false ∧
    State.reset.sig.active 0 = false ∧ w0High.active 0 = true ∧ w0High.config.wakeSet.getLsbD 0 = true ∧
    w0High.standby = true ∧ (shown .hold false (some .t2)).disp.staged = some .t2 ∧
    (let quiet := { State.reset.sig with config := { State.reset.sig.config with moving := 0 } }
     quiet.movingValue = false ∧ ({ quiet with signals := s0True.signals }).movingValue = true) := by decide

/-- The reset state with the debounce timer of W0 running after a rise. -/
def rising : State := { State.reset with sig := { State.reset.sig with
  wires := State.reset.sig.wires.set 0 ⟨true, false, some 6000, 0⟩ } }

theorem test_meets_WiresAreDebounced :
    false = State.reset.sig.wires[0].raw ∧ true ≠ State.reset.sig.wires[0].raw ∧
    State.reset.sig.config.wires[0].debounce ≠ 0 ∧ true ≠ State.reset.sig.wires[0].accepted ∧
    false ≠ rising.sig.wires[0].raw ∧ false = rising.sig.wires[0].accepted ∧ rising.sig.wires[0].timer = some 6000 ∧
    State.reset.sig.wires[0].timer = none ∧ State.reset.sig.config.signals[5].source = .wire 5 ∧
    State.reset.sig.config.signals[6].source = .message ∧
    ({ factorySignals with wires := Vector.replicate 6 ⟨.activeHigh, 0⟩ }).wires[0].debounce = 0 := by decide

theorem test_meets_SignalsTakenOrStale :
    (hd 3).len ≠ 4 ∧ (hd 3).len ≠ 5 ∧ (hd 4).len = 4 ∧ (hd 5).len = 5 ∧ (254#8 : Byte).toNat ≠ 255 ∧
    ¬((255#8 : Byte).toNat ≠ 255) ∧ State.reset.frameArrives.sig.config.signals[8].source = .message ∧
    ((0x01#8).toNat * 256 + (0x00#8).toNat).testBit 8 = true ∧ ((0x01#8).toNat * 256 + (0x00#8).toNat).testBit 9 = false ∧
    State.reset.frameArrives.sig.config.signals[14].source = .speed 5 3 ∧
    (let u := State.reset.sig.takeEntries 0x0100 0x0100 0
     u.signals[8].timer = some 150000 ∧ (State.reset.sig.takeSpeed 250 0).speedTimer = some 150000) ∧
    State.reset.sig.signals[8].timer = none ∧ State.reset.sig.speedTimer = none := by decide

set_option maxRecDepth 4000 in
theorem test_meets_SignalConfigTakenWhole :
    let f := carriedSignals 5000
    (hd 112).len = 112 ∧
    (∀ i : Fin 16, f.signals[i].source = .message ∧ f.signals[i].failRule.isSome = true ∧ 50 ≤ f.signals[i].timeout ∧
      f.signals[i].timeout ≤ 5000) ∧
    (∀ n : Fin 6, f.wires[n].polarity.isSome = true) ∧ 50 ≤ f.speedTimeout ∧ f.moving ≤ 15 ∧
    ¬((carriedSignals 5001).signals[0].timeout ≤ 5000) ∧ rising.frameArrives.sig.wires[0].timer ≠ none ∧
    f.wires[0].debounce ≠ rising.frameArrives.sig.config.wires[0].debounce ∧
    State.reset.frameArrives.sig.config.signals[14].source = .speed 5 3 ∧
    State.reset.frameArrives.sig.signals[14].freshness = .stale ∧
    (State.reset.sig.takeSpeed 250 0).speedFresh = true ∧ (State.reset.sig.takeSpeed 250 0).speed = some 250 ∧
    State.reset.frameArrives.sig.speedFresh = false := by decide

theorem test_meets_StandbyEntered :
    (hd 0).len = 0 ∧ State.reset.frameArrives.sig.movingValue = true ∧
    (let s : State := { linked .disabled with sig := { State.reset.sig with config := { factorySignals with moving := 0 } } }
     s.frameArrives.sig.movingValue = false ∧ s.frameArrives.cams[1].port.config.enabled = true) ∧
    (cam0 fun c => { c with port := { c.port with config := { c.port.config with enabled := false } } }).frameArrives.cams[0].port.config.enabled
      = false := by decide

theorem test_meets_PartAndEventRequests : State.reset.powered = true ∧ (hd 0).len = 0 ∧ (hd 4).len = 4 := by decide

theorem test_meets_ErrorQueueKeepsSixteen :
    let q := fun c => List.replicate 15 (⟨.linkCheck, 0, 0⟩ : ErrorEntry) ++ [⟨c, 2, 0⟩]
    (q .linkGap).length = 16 ∧ ErrorCode.linkGap ≠ .queueOverflow ∧ (q .queueOverflow).length = 16 ∧
    State.reset.sts.errors.length < 16 ∧ State.reset.frameArrives.sts.errors = [] ∧
    (State.reset.queueError .linkGap 3).frameArrives.sts.errors = [⟨.linkGap, 3, 0⟩] := by decide

theorem test_meets_ProfileSavedAndVerified :
    (hd 1).len = 1 ∧ 3 < 4 ∧ State.reset.frameArrives.prf.save = none ∧
    (stored .empty (some ⟨3, factoryProfile⟩)).frameArrives.prf.save ≠ none ∧
    (stored .empty (some ⟨3, factoryProfile⟩)).prf.save = some ⟨3, factoryProfile⟩ ∧ State.reset.prf.save = none := by
  decide

/-- A part at rest, S0 its moving signal, with a profile in slot 0. -/
def atRest (p : Profile) (check : BitVec 16) : State := { stored (.valid p check) none with
  sig := { State.reset.sig with config := { factorySignals with moving := 0 } } }

theorem test_meets_ProfileLoadReplacesTheConfiguration (p : Profile) :
    (hd 1).len = 1 ∧ 3 < 4 ∧ (stored .empty (some ⟨3, p⟩)).frameArrives.prf.save ≠ none ∧
    State.reset.frameArrives.prf.save = none ∧ State.reset.frameArrives.prf.slots[0] = .empty ∧
    (∃ check, Config.profileCheck p ≠ check ∧ (atRest p check).frameArrives.prf.slots[0] = .valid p check) ∧
    (let s := atRest p (Config.profileCheck p)
     s.frameArrives.prf.slots[0] = .valid p (Config.profileCheck p) ∧ s.frameArrives.prf.save = none ∧
     s.frameArrives.sig.movingValue = false) ∧
    (stored (.valid p (Config.profileCheck p)) none).frameArrives.sig.movingValue = true ∧
    (∀ o : OutputState, o ∈ [.off, .starting, .running, .hold, .stopping] →
      (shown o false (some .t2)).frameArrives.disp.state = o) ∧
    (composing.frameArrives.comp.context.map fun ctx => ctx.slotRefs[1]) = some (some 2) ∧
    (composing.frameArrives.comp.context.map fun ctx => ctx.slotRefs[0]) = some none ∧
    (linked .locked).frameArrives.cams[0].port.link = .locked ∧ State.reset.frameArrives.comp.context = none :=
  ⟨rfl, by decide, nofun, rfl, rfl, ⟨Config.profileCheck p + 1, by bv_omega, rfl⟩, ⟨rfl, rfl, rfl⟩, rfl, by decide, by decide,
    by decide, by decide, rfl⟩

/-- R126, R135: a load in HOLD at the timing held stays in HOLD with its hold timer; moving then leaves it (assumption 18). With
another timing the output enters STARTING; with the output enable no it enters OFF. -/
theorem test_load_in_hold :
    let d := (shown .hold false (some .t2)).disp
    (d.load true .t3 100 none).state = .hold ∧ (d.load true .t3 100 none).holdTimer = some 7 ∧
    (d.load true .t3 100 none).staged = none ∧ ((d.load true .t3 100 none).onMoving 100).state = .running ∧
    (d.load true .t1 100 none).state = .starting ∧ (d.load true .t1 100 none).settleTimer = some 60100 ∧
    (d.load false .t1 100 none).state = .off ∧ (d.load false .t1 100 none).current = .t1 := by decide

set_option maxRecDepth 8000 in
theorem test_meets_ReceptionFaultsAndCollisions :
    State.reset.link.owed = none ∧ State.reset.link.tx = .idle ∧ State.reset.link.rx = ⟨.hunt, [], none⟩ ∧
    (1#8 : Byte).toNat < 2 ∧ 250 < (251#8 : Byte).toNat ∧ 2 ≤ (2#8 : Byte).toNat ∧ (250#8 : Byte).toNat ≤ 250 ∧
    ([] : List Byte).length < 2 + (2#8 : Byte).toNat ∧ ([] : List Byte).length + 2 = (2#8 : Byte).toNat ∧
    (let s : State := { State.reset with link := { State.reset.link with rx := ⟨.check, [0xC5#8, 2, 1, 0, 9], some 600⟩ } }
     (⟨.check, [0xC5#8, 2, 1, 0, 9], some 600⟩ : Receiver) =
       ⟨if [(1#8 : Byte), 0, 9].length < (2#8 : Byte).toNat then .body else .check, 0xC5#8 :: 2 :: [1, 0, 9], some 600⟩ ∧
     [(1#8 : Byte), 0, 9].length < 2 + (2#8 : Byte).toNat ∧ s.link.engaged = false ∧
     (after (.linkGap []) s).map (fun t => (t.clock, t.sts.errors)) = some (600, [⟨.linkGap, 5, 2⟩]) ∧
     (after (.linkCheck [7]) s).map (fun t => t.sts.errors) = some [⟨.linkCheck, 1, 0⟩]) ∧
    (owing 0xBA#8 .reply).link.owed ≠ none ∧ (after (.collision 0xC5#8 false) (owing 0xBA#8 .reply)).isSome = true ∧
    (let n : State := { State.reset with link := { State.reset.link with tx := .notice ⟨0, 0, 0⟩ } }
     n.link.owed = none ∧ n.link.tx ≠ .idle ∧ (after (.collision 0x00#8 true) n).isSome = true) := by decide

set_option maxRecDepth 4000 in
theorem test_meets_RepliesAndNoticesAreSent :
    (owing 0xBA#8 .idle).link.owed = some ⟨0xBA#8, 0x31#8, .ok, .nothing, 10⟩ ∧ (owing 0xBA#8 .idle).link.tx = .idle ∧
    (owing 0xBA#8 .reply).link.tx = .reply ∧ (0xBA#8 : Byte) ≠ 0x82#8 ∧ State.reset.link.noticePending = true ∧
    State.reset.link.owed = none ∧ State.reset.link.tx = .idle ∧ State.reset.link.rx.state = .hunt ∧
    (List.replicate 248 (0 : Byte)).length ≤ 248 ∧
    ({ State.reset.link with tx := .notice ⟨0, 0, 0⟩ } : LinkPort).tx = .notice ⟨0, 0, 0⟩ := by decide

theorem test_meets_SamplesStayInsideTheFrame :
    2 ≤ 2 ∧ 0 < 2 ∧ 1 < 2 ∧ 31 < 32 ∧ 15 < 16 ∧ outsideFrame 20464 15344 1280 960 = false ∧ outsideFrame 0 0 1 1 = false ∧ 255 ≤ 255 ∧
    128 ≤ 128 := by decide

theorem test_meets_PrimitivesCoverTheirPixels :
    ¬(0 ≤ (1280 : Int) ∧ (1280 : Int) < 1280 ∧ 0 ≤ (0 : Int) ∧ (0 : Int) < 800) ∧ (1279 : Int) < 1280 ∧ (799 : Int) < 800 ∧
    |(696 : Int) - 700| ≤ |110 - 100| ∧ (110 : Int) ≠ 100 ∧ |(100 : Int) - 100| < |1 - 0| ∧ 1 ≤ 1 := by decide

/-- A latched frame of one tile. -/
def latched (d : MeshDecision) (pic : Picture) (rows : Option (List (List Pixel))) : ComposedFrame where
  areaW := 1280
  areaH := 800
  tiles := [⟨⟨1, 0, 0, 640, 800, .linear 0 0 1280 960, false, rgb 0 0 0⟩, d⟩]
  overlays := [⟨.box 0 0 9 9, rgb 1 2 3, 16, .slow, .onSignal 0 true⟩]
  slowVisible := true
  fastVisible := false
  signals := Vector.replicate 16 true
  cams := (Vector.replicate 4 none).set 1 (some ⟨rows, 128, pic, .clear, 1280, 960, some 5⟩)
  meshWithdrawnAt := some 5

theorem test_meets_PixelsAreDrawnByTheirTile :
    let f := latched .linear .fresh (some [])
    (∀ t ∈ f.tiles, Tile.holds t.tile 640 0 = false) ∧ (∀ t ∈ f.tiles, Tile.holds t.tile 639 799 = true) ∧
    f.cams[1] = some ⟨some [], 128, .fresh, .clear, 1280, 960, some 5⟩ ∧
    f.pixel 1280 0 = none ∧ f.pixel 1279 799 = some (rgb 0 0 0) ∧ (latched .linear .stale none).slowVisible = true ∧
    (latched .fault .fresh none).tiles.map LatchedTile.decision = [.fault] ∧
    (latched (.mesh []) .lost none).tiles.map LatchedTile.decision = [.mesh []] ∧
    (4 < 5 ∧ ¬(5 < 5)) ∧ f.overlays = [] ++ [⟨.box 0 0 9 9, rgb 1 2 3, 16, .slow, .onSignal 0 true⟩] ∧
    f.signals[0] = true ∧ Geometry.covers (.box 0 0 9 9) 8 8 = true ∧ Geometry.covers (.box 0 0 9 9) 9 8 = false := by
  decide

/-- R103, R111, R112: a stale tile of 640 by 800 pixels with its border visible has the border in its four outer pixels, and
the HOURGLASS's first cell at (8, 8); the LENS of an obscured one has its first set cell, number 5, at (600 + 10, 8). -/
theorem test_marks :
    let f := latched .linear .stale none
    let cams := (Vector.replicate 4 none).set 1 (some ⟨none, 128, .stale, .obscured, 1280, 960, none⟩)
    let g : ComposedFrame := { f with cams := cams }
    f.pixel 636 400 = some amber ∧ f.pixel 635 400 = some (rgb 0 0 0) ∧ f.pixel 9 9 = some amber ∧
    g.pixel 635 400 = some red ∧ g.pixel 631 400 = some (rgb 0 0 0) ∧ g.pixel 610 8 = some red ∧
    g.pixel 609 8 = some (rgb 0 0 0) := by decide

/-- R121, R103: under T0 the repeat frame has a white border in rows 0 to 5, the FROZEN glyph from (384, 12), and nothing at
column 800. -/
theorem test_repeat_frame :
    let s := shown .hold false none
    let t : State := { s with disp := { s.disp with current := .t0, sending := .repeatFrame } }
    t.displayPixel 0 5 = some white ∧ t.displayPixel 300 6 = some (rgb 0 0 0) ∧ t.displayPixel 384 12 = some white ∧
    t.displayPixel 386 14 = some (rgb 0 0 0) ∧ t.displayPixel 799 479 = some white ∧ t.displayPixel 800 0 = none ∧
    t.displayPixel 0 480 = none := by decide

set_option maxRecDepth 8000 in
/-- R116: OUTPUT_DISABLE in HOLD enters OFF, and the repeat frame's picture stays on the monitor; a timing staged in OFF does not
change it. -/
theorem test_off_keeps_the_picture :
    let s := shown .hold false none
    let s : State := { s with disp := { s.disp with current := .t0, sending := .repeatFrame } }
    let t := (after (.outputDisable (hd 0)) s).bind fun t => after (.setOutputTiming (hd 1) 3) t
    t.map (fun t => t.disp.state) = some .off ∧ t.map (fun t => t.disp.sending) = some .nothing ∧
    t.map (fun t => t.displayPixel 799 479) = some (some white) ∧ t.map (fun t => t.displayPixel 800 0) = some none ∧
    (after .powerLoss s).map (fun t => t.displayPixel 799 479) = some none := by decide

/-! The invariants: a state of each kind that meets them and a step from it. -/

theorem test_meets_StepKeepsCamerasInOrder :
    busyCam.ringsSafe ∧ (linked .down).camsSafe ∧ ∃ t, step (linked .down) = .next t := by
  refine ⟨by unfold State.ringsSafe slotsSafe; decide, ?_, ⟨_, rfl⟩⟩
  intro i
  fin_cases i <;> simp [Cam.safe, deadlinesSafe, linked, cam0, State.onCam, State.setCam, State.reset, resetCam, resetPort]

theorem test_loading_mesh_safe : (loading 2).mesh.safe := by
  refine ⟨by decide, ?_, ?_⟩ <;> intro i <;> fin_cases i <;> simp [loading, State.reset, MeshSlot.safe]

theorem test_factory_view_safe : View.safe factoryView := by simp [View.safe, factoryView, totalCost]

theorem test_loading_views_safe : viewsSafe (loading 2).views := by
  intro i v h
  fin_cases i <;> simp [loading, State.reset, factoryProfile] at h
  exact h ▸ test_factory_view_safe

theorem test_no_profile (P : Profile → Prop) : (loading 2).prf.every P := by
  refine ⟨fun n p check h => ?_, fun v h => ?_⟩
  · simp [loading, State.reset] at h
  · simp [loading, State.reset] at h

theorem test_meets_StepKeepsStoresInOrder :
    let s := loading 2
    s.gainsSafe ∧ s.prf.every Profile.gainsSafe ∧ s.mesh.safe ∧ s.prf.every Profile.meshesSafe ∧ viewsSafe s.views ∧
    s.prf.every Profile.viewsSafe ∧ s.refsSafe ∧ s.prf.every Profile.refsSafe ∧ ∃ t, step s = .next t := by
  refine ⟨?_, test_no_profile _, test_loading_mesh_safe, test_no_profile _, test_loading_views_safe, test_no_profile _,
    ⟨by decide, nofun, by decide, nofun, fun i e h => ?_⟩, test_no_profile _, ⟨_, rfl⟩⟩
  · unfold State.gainsSafe MeterItems.limitsSafe; decide
  · fin_cases i <;> simp [loading, State.reset] at h

theorem test_meets_StepKeepsSelectionAndSignals :
    rising.sig.wires[0].timer.isSome = true ∧ rising.sig.wires[0].raw ≠ rising.sig.wires[0].accepted ∧
    ∃ t, step rising = .next t :=
  ⟨rfl, by decide, ⟨_, rfl⟩⟩

theorem test_meets_StepKeepsOutputAndStatus :
    (State.reset.queueError .linkGap 3).sts.errors.length ≤ 16 ∧ (owing 0xBA#8 .reply).link.safe ∧
    ∃ t, step (owing 0xBA#8 .reply) = .next t :=
  ⟨by decide, rfl, ⟨_, rfl⟩⟩

end Sys2Proof.Tests
end

section
/-! The cameras in order: what each operation of a port, a ring and a metering unit keeps (R2, R6, R9, R22, R24, R29). -/

namespace Sys2Proof.Machine

/-! ### A camera in order, field by field -/

/-- A camera whose ring keeps R24 and which is in order: `slotsSafe` and `Cam.safe` (Safety.lean) with named fields. -/
structure Cam.Ordered (standby : Bool) (c : Cam) : Prop where
  slots : slotsSafe c.ring.slots.toList
  enabled_iff : c.port.config.enabled = false ↔ c.port.link = .disabled
  timer_iff : c.port.wordTimer.isSome = true ↔ c.port.link = .training
  unlocked : c.port.link ≠ .locked → c.port.frameOpen = false ∧ c.ring.slots = Vector.replicate 3 .free
  open_eq : c.port.frameOpen = c.ring.slots.toList.any Slot.isFilling
  deadlines : deadlinesSafe c.ring (c.port.config.enabled && c.port.linkPower)
  power : c.port.linkPower = !c.port.wasEnabled
  down : c.port.wasEnabled = true → c.port.link = .down ∧ standby = true

theorem Cam.ordered_iff (standby : Bool) (c : Cam) :
    c.Ordered standby ↔ slotsSafe c.ring.slots.toList ∧ c.safe standby := by
  constructor
  · rintro ⟨h1, h2, h3, h4, h5, h6, h7, h8⟩
    exact ⟨h1, h2, h3, h4, h5, h6, h7, h8⟩
  · rintro ⟨h1, h2, h3, h4, h5, h6, h7, h8⟩
    exact ⟨h1, h2, h3, h4, h5, h6, h7, h8⟩

/-- Every camera's ring keeps R24, and every camera is in order. -/
def State.camerasOrdered (s : State) : Prop := ∀ i : Fin 4, (s.cams[i]).Ordered s.sig.standby

theorem camerasOrdered_iff (s : State) : s.camerasOrdered ↔ s.ringsSafe ∧ s.camsSafe := by
  simp only [State.camerasOrdered, State.ringsSafe, State.camsSafe, Cam.ordered_iff, forall_and]

/-! ### What the order of a camera says of its link state -/

section
variable {c : Cam} {standby : Bool}

/-- A port in any state but DISABLED and DOWN is enabled and its link has power (R2, R22). -/
theorem Cam.Ordered.working (h : c.Ordered standby) (hd : c.port.link ≠ .disabled) (hn : c.port.link ≠ .down) :
    c.port.config.enabled = true ∧ c.port.linkPower = true ∧ c.port.wasEnabled = false := by
  have hw : c.port.wasEnabled = false := by
    by_contra hw
    exact hn (h.down (by simpa using hw)).1
  refine ⟨?_, by simp [h.power, hw], hw⟩
  by_contra he
  exact hd (h.enabled_iff.1 (by simpa using he))

/-- In an awake part no port waits for a wake (R22). -/
theorem Cam.Ordered.awake (h : c.Ordered false) : c.port.wasEnabled = false ∧ c.port.linkPower = true := by
  have hw : c.port.wasEnabled = false := by
    by_contra hw
    exact absurd (h.down (by simpa using hw)).2 (by simp)
  exact ⟨hw, by simp [h.power, hw]⟩

/-- A ring without a live port has no deadline and no picture (chapter 2.4.1). -/
theorem deadlinesSafe_dead {r : Ring} (h : deadlinesSafe r false) :
    r.picture = .absent ∧ r.staleTimer = none ∧ r.lostTimer = none := by
  unfold deadlinesSafe at h
  split at h <;> simp_all

/-- The deadlines depend on the picture and the two timers alone. -/
theorem deadlinesSafe_congr {r q : Ring} {live : Bool} (hp : q.picture = r.picture) (hs : q.staleTimer = r.staleTimer)
    (hl : q.lostTimer = r.lostTimer) (h : deadlinesSafe r live) : deadlinesSafe q live := by
  simpa only [deadlinesSafe, hp, hs, hl] using h

/-- Arming the lost deadline of a ring whose port becomes live (R5, R22, R33). -/
theorem armLost_deadlines {r : Ring} (p : PortItems) (now : Nat) (h : deadlinesSafe r false) :
    deadlinesSafe (r.armLost p now) true := by
  obtain ⟨hp, hs, -⟩ := deadlinesSafe_dead h
  simp [deadlinesSafe, Ring.armLost, hp, hs]

end

/-! ### The operations of a port, field by field -/

section
variable (p : Port) (now : Nat)

@[simp] theorem Port.beginAttempt_config : (p.beginAttempt now).config = p.config := rfl
@[simp] theorem Port.beginAttempt_link : (p.beginAttempt now).link = p.link := rfl
@[simp] theorem Port.beginAttempt_linkPower : (p.beginAttempt now).linkPower = p.linkPower := rfl
@[simp] theorem Port.beginAttempt_wasEnabled : (p.beginAttempt now).wasEnabled = p.wasEnabled := rfl
@[simp] theorem Port.beginAttempt_frameOpen : (p.beginAttempt now).frameOpen = p.frameOpen := rfl
@[simp] theorem Port.beginAttempt_wordTimer : (p.beginAttempt now).wordTimer = some (now + millis wordTimerMs) := rfl

@[simp] theorem Port.beginSweep_config : (p.beginSweep now).config = p.config := rfl
@[simp] theorem Port.beginSweep_link : (p.beginSweep now).link = .training := rfl
@[simp] theorem Port.beginSweep_linkPower : (p.beginSweep now).linkPower = p.linkPower := rfl
@[simp] theorem Port.beginSweep_wasEnabled : (p.beginSweep now).wasEnabled = p.wasEnabled := rfl
@[simp] theorem Port.beginSweep_frameOpen : (p.beginSweep now).frameOpen = p.frameOpen := rfl
@[simp] theorem Port.beginSweep_wordTimer : (p.beginSweep now).wordTimer = some (now + millis wordTimerMs) := rfl

@[simp] theorem Port.abandon_config : p.abandon.config = p.config := rfl
@[simp] theorem Port.abandon_link : p.abandon.link = p.link := rfl
@[simp] theorem Port.abandon_linkPower : p.abandon.linkPower = p.linkPower := rfl
@[simp] theorem Port.abandon_wasEnabled : p.abandon.wasEnabled = p.wasEnabled := rfl
@[simp] theorem Port.abandon_frameOpen : p.abandon.frameOpen = false := rfl
@[simp] theorem Port.abandon_wordTimer : p.abandon.wordTimer = none := rfl

end

/-! ### Flushes (R42) and sweeps (R9) -/

section
variable {c : Cam} {standby : Bool} {now : Nat}

theorem free_slots_fill : (Vector.replicate 3 Slot.free).toList.any Slot.isFilling = false := by
  simp [Slot.isFilling]

/-- A flush leaves the camera in order when its port ends the event in order with no frame open. -/
theorem flush_ordered (d : Cam) {live : Bool} (now : Nat)
    (he : d.port.config.enabled = false ↔ d.port.link = .disabled)
    (ht : d.port.wordTimer.isSome = true ↔ d.port.link = .training) (hf : d.port.frameOpen = false)
    (hl : (d.port.config.enabled && d.port.linkPower) = live) (hp : d.port.linkPower = !d.port.wasEnabled)
    (hd : d.port.wasEnabled = true → d.port.link = .down ∧ standby = true) : (d.flush now live).Ordered standby where
  slots := flushed_slotsSafe _ _ _
  enabled_iff := he
  timer_iff := ht
  unlocked := fun _ => ⟨hf, rfl⟩
  open_eq := hf.trans free_slots_fill.symm
  deadlines := by
    have e : (d.flush now live).port = d.port := rfl
    rw [e, hl]
    cases live <;> simp [Cam.flush, Ring.flushed, deadlinesSafe]
  power := hp
  down := hd

/-- A camera outside LOCKED stays in order when its port moves on outside a frame and its slots stay as they are. -/
theorem Cam.Ordered.moved (h : c.Ordered standby) (hn : c.port.link ≠ .locked) {d : Cam} {after : Bool}
    (hs : d.ring.slots = c.ring.slots) (he : d.port.config.enabled = false ↔ d.port.link = .disabled)
    (ht : d.port.wordTimer.isSome = true ↔ d.port.link = .training) (hf : d.port.frameOpen = false)
    (hr : deadlinesSafe d.ring (d.port.config.enabled && d.port.linkPower))
    (hp : d.port.linkPower = !d.port.wasEnabled)
    (hd : d.port.wasEnabled = true → d.port.link = .down ∧ after = true) : d.Ordered after := by
  have free : d.ring.slots = Vector.replicate 3 .free := hs.trans (h.unlocked hn).2
  exact {
    slots := by simpa only [hs] using h.slots
    enabled_iff := he
    timer_iff := ht
    unlocked := fun _ => ⟨hf, free⟩
    open_eq := by simp only [free, free_slots_fill, hf]
    deadlines := hr
    power := hp
    down := hd }

/-- A ring that a change leaves alike for the order of its camera: R24, the FILLING slot, and the picture's deadlines. -/
structure Ring.Alike (r q : Ring) : Prop where
  slots : slotsSafe r.slots.toList → slotsSafe q.slots.toList
  filling : q.slots.toList.any Slot.isFilling = r.slots.toList.any Slot.isFilling
  free : r.slots = Vector.replicate 3 .free → q.slots = Vector.replicate 3 .free
  picture : q.picture = r.picture
  staleTimer : q.staleTimer = r.staleTimer
  lostTimer : q.lostTimer = r.lostTimer

theorem Ring.alike_refl (r : Ring) : r.Alike r := ⟨id, rfl, id, rfl, rfl, rfl⟩

/-- A change of every slot that keeps R24, FILLING and FREE. -/
theorem mapSlots_alike (r : Ring) (f : Slot → Slot)
    (hs : slotsSafe r.slots.toList → slotsSafe (r.mapSlots f).slots.toList)
    (hf : ∀ x, (f x).isFilling = x.isFilling) (h0 : f .free = .free) : r.Alike (r.mapSlots f) where
  slots := hs
  filling := by rw [mapSlots_toList, slots_toList]; simp [hf]
  free := fun h => by
    apply Vector.ext
    intro i hi
    simp [Ring.mapSlots, h, h0]
  picture := rfl
  staleTimer := rfl
  lostTimer := rfl

/-- A change of a camera that keeps what its order looks at. -/
theorem Cam.Ordered.congr (h : c.Ordered standby) {d : Cam} (hr : c.ring.Alike d.ring)
    (he : d.port.config.enabled = c.port.config.enabled) (hl : d.port.link = c.port.link)
    (ht : d.port.wordTimer = c.port.wordTimer) (hf : d.port.frameOpen = c.port.frameOpen)
    (hp : d.port.linkPower = c.port.linkPower) (hw : d.port.wasEnabled = c.port.wasEnabled) : d.Ordered standby where
  slots := hr.slots h.slots
  enabled_iff := by simpa only [he, hl] using h.enabled_iff
  timer_iff := by simpa only [ht, hl] using h.timer_iff
  unlocked := fun hn => by
    obtain ⟨hc, hz⟩ := h.unlocked (by simpa only [hl] using hn)
    exact ⟨hf.trans hc, hr.free hz⟩
  open_eq := by simpa only [hf, hr.filling] using h.open_eq
  deadlines := by
    simpa only [he, hp] using deadlinesSafe_congr hr.picture hr.staleTimer hr.lostTimer h.deadlines
  power := by simpa only [hw, hp] using h.power
  down := by simpa only [hw, hl] using h.down

/-- A change of the port alone that keeps what the camera's order looks at. -/
theorem Cam.Ordered.congrPort (h : c.Ordered standby) {p : Port} {m : Meter}
    (he : p.config.enabled = c.port.config.enabled) (hl : p.link = c.port.link) (ht : p.wordTimer = c.port.wordTimer)
    (hf : p.frameOpen = c.port.frameOpen) (hp : p.linkPower = c.port.linkPower) (hw : p.wasEnabled = c.port.wasEnabled) :
    Cam.Ordered standby ⟨p, c.ring, m⟩ :=
  h.congr c.ring.alike_refl he hl ht hf hp hw

/-- A sweep that begins in DOWN leaves the camera in order (R7, R9). -/
theorem Cam.Ordered.sweep (h : c.Ordered standby) (hl : c.port.link = .down) (hp : c.port.linkPower = true) (now : Nat) :
    Cam.Ordered standby { c with port := c.port.beginSweep now } := by
  have hn : c.port.link ≠ .locked := by simp [hl]
  have he : c.port.config.enabled ≠ false := fun he => by simpa [hl] using h.enabled_iff.1 he
  have hw : c.port.wasEnabled = false := by simpa [hp] using h.power
  exact h.moved hn rfl (by simpa using he) (by simp) (h.unlocked hn).1 h.deadlines h.power (by simp [hw])

/-- Examining carrier detect in DOWN leaves the camera in order (R5). -/
theorem Cam.Ordered.examine (h : c.Ordered standby) (hl : c.port.link = .down) (hp : c.port.linkPower = true) (now : Nat) :
    Cam.Ordered standby { c with port := c.port.examineCarrier now } := by
  unfold Port.examineCarrier
  split
  · exact h.sweep hl hp now
  · exact h

/-- A retrain leaves the camera in order (R8, R17, R23). -/
theorem Cam.Ordered.retrain (h : c.Ordered standby) (hd : c.port.link ≠ .disabled) (hn : c.port.link ≠ .down) (now : Nat) :
    (c.retrain now).Ordered standby := by
  obtain ⟨he, hp, hw⟩ := h.working hd hn
  exact flush_ordered _ now (by simp [he]) (by simp) rfl (by simp [he, hp]) (by simp [hp, hw]) (by simp [hw])

/-- CAMERA_DISABLE leaves the camera in order (R6). -/
theorem disable_ordered (c : Cam) (hw : c.port.wasEnabled = false) (hp : c.port.linkPower = true) (now : Nat) :
    (c.disable now).Ordered standby :=
  flush_ordered _ now (by simp) (by simp) rfl (by simp) (by simp [hp, hw]) (by simp [hw])

/-- CAMERA_ENABLE in DISABLED leaves the camera in order (R5). -/
theorem Cam.Ordered.enable (h : c.Ordered standby) (hl : c.port.link = .disabled) (now : Nat) :
    (c.enable now).Ordered standby := by
  have hn : c.port.link ≠ .locked := by simp [hl]
  have hw : c.port.wasEnabled = false := by
    by_contra hw
    simpa [hl] using (h.down (by simpa using hw)).1
  have hp : c.port.linkPower = true := by simp [h.power, hw]
  have he := h.enabled_iff.2 hl
  have ht : c.port.wordTimer.isSome ≠ true := fun ht => by simpa [hl] using h.timer_iff.1 ht
  have enabled : Cam.Ordered standby
      { c with
        port := { c.port with link := .down, config := { c.port.config with enabled := true } }
        ring := c.ring.armLost c.port.config.items now } :=
    h.moved hn rfl (by simp) (by simpa using ht) (h.unlocked hn).1
      (by simpa [hp] using armLost_deadlines _ now (by simpa [he] using h.deadlines)) h.power (by simp [hw])
  exact enabled.examine rfl hp now

/-- Carrier lost leaves the camera in order (R7). -/
theorem Cam.Ordered.loseCarrier (h : c.Ordered standby) (hd : c.port.link ≠ .disabled) (hn : c.port.link ≠ .down)
    (now : Nat) : (c.loseCarrier now).Ordered standby := by
  obtain ⟨he, hp, hw⟩ := h.working hd hn
  exact flush_ordered _ now (by simp [he]) (by simp) rfl (by simp [he, hp]) (by simp [hp, hw]) (by simp [hw])

/-- Standby entry leaves an enabled camera in order for a part in standby (R22). -/
theorem enterStandby_ordered (c : Cam) (he : c.port.config.enabled = true) (now : Nat) :
    (c.enterStandby now).Ordered true :=
  flush_ordered _ now (by simp [he]) (by simp) rfl (by simp) (by simp) (by simp)

/-- A camera that standby entry does not touch stays in order for a part in standby (R22). -/
theorem Cam.Ordered.inStandby (h : c.Ordered standby) : c.Ordered true :=
  { h with down := fun hw => ⟨(h.down hw).1, rfl⟩ }

/-- A wake leaves the camera in order for an awake part (R22, R33). -/
theorem Cam.Ordered.wake (h : c.Ordered standby) (now : Nat) : (c.wake now).Ordered false := by
  unfold Cam.wake
  split
  · rename_i hw
    have hl := (h.down hw).1
    have hn : c.port.link ≠ .locked := by simp [hl]
    have hp : c.port.linkPower = false := by simp [h.power, hw]
    have he : c.port.config.enabled = true := by
      by_contra he
      simpa [hl] using h.enabled_iff.1 (by simpa using he)
    have ht : c.port.wordTimer.isSome ≠ true := fun ht => by simpa [hl] using h.timer_iff.1 ht
    have powered : Cam.Ordered false
        { c with
          port := { c.port with linkPower := true, wasEnabled := false }
          ring := c.ring.armLost c.port.config.items now } :=
      h.moved hn rfl (by simp [he, hl]) (by simpa [hl] using ht) (h.unlocked hn).1
        (by simpa [he] using armLost_deadlines _ now (by simpa [he, hp] using h.deadlines)) rfl (by simp)
    exact powered.examine hl rfl now
  · rename_i hw
    exact { h with down := fun h' => absurd h' hw }

/-- A camera after a reset is in order, whatever it was before (R20, R43). -/
theorem restart_ordered (c : Cam) (config : PortConfig) (meter : MeterItems) (now : Nat) :
    (c.restart config meter now).Ordered false := by
  have flushed (link : LinkState) (live : Bool) (hl : config.enabled = live)
      (hs : link = if live then .down else .disabled) (m : Meter) :
      Cam.Ordered false ⟨{ resetPort with config := config, link := link, carrier := c.port.carrier },
        Ring.flushed config.items now live, m⟩ := by
    refine ⟨flushed_slotsSafe _ _ _, ?_, ?_, fun _ => ⟨rfl, rfl⟩, free_slots_fill.symm, ?_, rfl, nofun⟩
    · cases live <;> simp [hs, hl]
    · cases live <;> simp [hs, resetPort]
    · cases live <;> simp [Ring.flushed, deadlinesSafe, resetPort, hl]
  unfold Cam.restart
  cases he : config.enabled
  · exact flushed .disabled false he rfl _
  · exact (flushed .down true he rfl _).examine rfl rfl now

end

end Sys2Proof.Machine
end

section
/-! The cameras in order, continued: training, lines, frames, claims and loads (R10 to R17, R23, R26 to R34). -/

namespace Sys2Proof.Machine

/-! ### Training keeps a camera in order (R10 to R12) -/

/-- A port in TRAINING that differs from `b` only in its attempt. -/
structure Port.Attempts (b p : Port) : Prop where
  config : p.config = b.config
  linkPower : p.linkPower = b.linkPower
  wasEnabled : p.wasEnabled = b.wasEnabled
  frameOpen : p.frameOpen = false
  link : p.link = .training

/-- What training can make of the port `b`: the word timer runs exactly in TRAINING. -/
structure Port.TrainsTo (b q : Port) : Prop where
  config : q.config = b.config
  linkPower : q.linkPower = b.linkPower
  wasEnabled : q.wasEnabled = b.wasEnabled
  frameOpen : q.frameOpen = false
  enabled : q.link ≠ .disabled
  timer_iff : q.wordTimer.isSome = true ↔ q.link = .training

section
variable {b p : Port} (h : Port.Attempts b p) (now : Nat)
include h

theorem beginAttempt_trains : Port.TrainsTo b (p.beginAttempt now) :=
  ⟨h.config, h.linkPower, h.wasEnabled, h.frameOpen, by simp [h.link], by simp [h.link]⟩

theorem failAttempt_trains : Port.TrainsTo b (p.failAttempt now) := by
  unfold Port.failAttempt
  dsimp only
  split
  · refine beginAttempt_trains ?_ now
    exact ⟨h.config, h.linkPower, h.wasEnabled, h.frameOpen, h.link⟩
  · exact ⟨h.config, h.linkPower, h.wasEnabled, h.frameOpen, by simp, by simp⟩

theorem endAttempt_trains : Port.TrainsTo b (p.endAttempt now) := by
  unfold Port.endAttempt
  dsimp only
  split
  · exact ⟨h.config, h.linkPower, h.wasEnabled, rfl, by simp, by simp⟩
  · refine failAttempt_trains ?_ now
    exact ⟨h.config, h.linkPower, h.wasEnabled, h.frameOpen, h.link⟩

theorem timeOut_trains : Port.TrainsTo b (p.timeOut now) := by
  refine failAttempt_trains ?_ now
  exact ⟨h.config, h.linkPower, h.wasEnabled, h.frameOpen, h.link⟩

theorem phaseJudged_trains (ht : p.wordTimer.isSome = true) (words : List (BitVec 10)) :
    Port.TrainsTo b (p.phaseJudged words now) := by
  unfold Port.phaseJudged
  dsimp only
  split
  · exact ⟨h.config, h.linkPower, h.wasEnabled, h.frameOpen, by simp [h.link], by simp [h.link, ht]⟩
  · refine endAttempt_trains ?_ now
    exact ⟨h.config, h.linkPower, h.wasEnabled, h.frameOpen, h.link⟩

theorem takeWord_trains (w : BitVec 10) : Port.TrainsTo b (p.takeWord w now) := by
  unfold Port.takeWord
  dsimp only
  split
  · exact ⟨h.config, h.linkPower, h.wasEnabled, h.frameOpen, by simp [h.link], by simp [h.link]⟩
  · refine phaseJudged_trains ?_ now rfl _
    exact ⟨h.config, h.linkPower, h.wasEnabled, h.frameOpen, h.link⟩

end

section
variable {c : Cam} {standby : Bool}

theorem Cam.Ordered.attempts (h : c.Ordered standby) (hl : c.port.link = .training) : Port.Attempts c.port c.port :=
  ⟨rfl, rfl, rfl, (h.unlocked (by simp [hl])).1, hl⟩

/-- A camera in TRAINING stays in order through whatever training makes of its port. -/
theorem Cam.Ordered.trains (h : c.Ordered standby) (hl : c.port.link = .training) {q : Port}
    (hq : Port.TrainsTo c.port q) : Cam.Ordered standby { c with port := q } := by
  obtain ⟨he, hp, hw⟩ := h.working (by simp [hl]) (by simp [hl])
  exact h.moved (by simp [hl]) rfl (by simp [hq.config, he, hq.enabled]) hq.timer_iff hq.frameOpen
    (by simpa only [hq.config, hq.linkPower] using h.deadlines) (by simp [hq.linkPower, hq.wasEnabled, hp, hw])
    (by simp [hq.wasEnabled, hw])

/-! ### Lines and frames keep a camera in order (R13 to R17) -/

theorem onFilling_alike (r : Ring) (g : Frame → Frame) : r.Alike (r.mapSlots (Slot.onFilling g)) :=
  mapSlots_alike r _ (onFilling_slotsSafe g) (fun x => by cases x <;> rfl) rfl

theorem Cam.Ordered.repairLine (h : c.Ordered standby) (i : Nat) : (c.repairLine i).Ordered standby :=
  h.congr (onFilling_alike _ _) rfl rfl rfl rfl rfl rfl

theorem Cam.Ordered.repairLines (h : c.Ordered standby) (first count : Nat) :
    (c.repairLines first count).Ordered standby := by
  induction count generalizing c first with
  | zero => exact h
  | succ count ih => exact ih (h.repairLine first) _

/-- Repairing lines changes nothing of the port but one counter. -/
theorem repairLines_port (c : Cam) (first count : Nat) :
    ∃ n, (c.repairLines first count).port =
      { c.port with counters := { c.port.counters with linesRepaired := n } } := by
  induction count generalizing c first with
  | zero => exact ⟨_, rfl⟩
  | succ count ih =>
    obtain ⟨n, hn⟩ := ih (c.repairLine first) (first + 1)
    exact ⟨n, hn⟩

theorem Cam.Ordered.takeLine (h : c.Ordered standby) (index : BitVec 16) (pixels : List Pixel) (check : BitVec 16) :
    (c.takeLine index pixels check).Ordered standby := by
  unfold Cam.takeLine
  dsimp only
  split
  · exact h.congrPort rfl rfl rfl rfl rfl rfl
  · have hr := h.repairLines c.port.expectedLine (index.toNat - c.port.expectedLine)
    split
    · exact (hr.repairLine _).congrPort rfl rfl rfl rfl rfl rfl
    · exact hr.congr (onFilling_alike _ _) rfl rfl rfl rfl rfl rfl

/-- A camera in LOCKED stays in order when a frame is opened or closed: a frame is open exactly while a slot fills. -/
theorem Cam.Ordered.framed (h : c.Ordered standby) (hl : c.port.link = .locked) {d : Cam}
    (hs : slotsSafe d.ring.slots.toList) (ho : d.port.frameOpen = d.ring.slots.toList.any Slot.isFilling)
    (hd : deadlinesSafe d.ring true) (hc : d.port.config = c.port.config) (hk : d.port.link = c.port.link)
    (ht : d.port.wordTimer = c.port.wordTimer) (hp : d.port.linkPower = c.port.linkPower)
    (hw : d.port.wasEnabled = c.port.wasEnabled) : d.Ordered standby := by
  obtain ⟨he', hp', hw'⟩ := h.working (by simp [hl]) (by simp [hl])
  exact {
    slots := hs
    enabled_iff := by simpa only [hc, hk] using h.enabled_iff
    timer_iff := by simpa only [ht, hk] using h.timer_iff
    unlocked := fun hn => absurd (hk.trans hl) hn
    open_eq := ho
    deadlines := by simpa only [hc, hp, he', hp', Bool.and_self] using hd
    power := by simpa only [hp, hw] using h.power
    down := by simp [hw, hw'] }

theorem Cam.Ordered.liveDeadlines (h : c.Ordered standby) (hl : c.port.link = .locked) : deadlinesSafe c.ring true := by
  obtain ⟨he, hp, -⟩ := h.working (by simp [hl]) (by simp [hl])
  simpa only [he, hp, Bool.and_self] using h.deadlines

/-- A ring has a frame in its FILLING slot exactly while a slot is FILLING. -/
theorem fillingFrame_isSome (r : Ring) : r.fillingFrame.isSome = r.slots.toList.any Slot.isFilling := by
  unfold Ring.fillingFrame
  rw [slots_toList]
  cases r.slots[0] <;> cases r.slots[1] <;> cases r.slots[2] <;> rfl

/-- After a change of every slot that leaves none FILLING, none is FILLING. -/
theorem mapSlots_noneFilling (r : Ring) (f : Slot → Slot) (hf : ∀ x, (f x).isFilling = false) :
    (r.mapSlots f).slots.toList.any Slot.isFilling = false := by
  rw [mapSlots_toList]
  simp [hf]

theorem reject_noneFilling (r : Ring) : r.reject.slots.toList.any Slot.isFilling = false :=
  mapSlots_noneFilling r _ fun x => by cases x <;> rfl

theorem accept_noneFilling (r : Ring) (p : PortItems) (now timeBase : Nat) :
    (r.accept p now timeBase).slots.toList.any Slot.isFilling = false :=
  mapSlots_noneFilling r _ fun x => by cases x <;> rfl

theorem Cam.Ordered.acceptFrame (h : c.Ordered standby) (hl : c.port.link = .locked) (u : SignalUnit)
    (now timeBase : Nat) : (c.acceptFrame u now timeBase).Ordered standby :=
  h.framed hl (accept_slotsSafe _ _ _ h.slots) (accept_noneFilling _ _ _ _).symm
    (by simp [Cam.acceptFrame, Ring.accept, deadlinesSafe]) rfl rfl rfl rfl rfl

theorem Cam.Ordered.rejectFrame (h : c.Ordered standby) (hl : c.port.link = .locked) :
    c.rejectFrame.Ordered standby :=
  h.framed hl (reject_slotsSafe h.slots) (reject_noneFilling _).symm
    (deadlinesSafe_congr rfl rfl rfl (h.liveDeadlines hl)) rfl rfl rfl rfl rfl

theorem Cam.Ordered.closeFrame (h : c.Ordered standby) (hl : c.port.link = .locked) (hf : c.ring.fillingFrame = none) :
    Cam.Ordered standby { c with port := c.port.closeFrame } :=
  h.framed hl h.slots (by rw [← fillingFrame_isSome, hf]; rfl) (h.liveDeadlines hl) rfl rfl rfl rfl rfl

/-- Measuring a period keeps the picture and its deadlines, and does not look at the slots (R38). -/
theorem measure_reject (r : Ring) (p : PortItems) (now : Nat) : r.reject.measure p now = (r.measure p now).reject := by
  unfold Ring.measure
  have : r.reject.prevStart = r.prevStart := rfl
  rw [this]
  cases r.prevStart <;> rfl

theorem measure_timers (r : Ring) (p : PortItems) (now : Nat) :
    (r.measure p now).picture = r.picture ∧ (r.measure p now).staleTimer = r.staleTimer ∧
    (r.measure p now).lostTimer = r.lostTimer := by
  unfold Ring.measure
  split <;> exact ⟨rfl, rfl, rfl⟩

/-- What opening a frame changes: one slot turns FILLING (R26). -/
theorem openFrame_some {r t : Ring} {number : Byte} (h : r.openFrame number = some t) :
    ∃ k : Fin 3, r.lowest Slot.isFree = some k ∧
      t = { r with slots := r.slots.set k (.filling ⟨⟨none, number, none, clearRepair⟩, []⟩) } := by
  unfold Ring.openFrame at h
  rw [Option.map_eq_some_iff] at h
  obtain ⟨k, hk, rfl⟩ := h
  exact ⟨k, hk, rfl⟩

theorem set_filling_fills (v : Vector Slot 3) (k : Fin 3) (f : Frame) :
    (v.set k (.filling f)).toList.any Slot.isFilling = true := by
  rw [slots_toList]
  fin_cases k <;> simp [Slot.isFilling]

/-- The ring of an opened frame keeps R24, whatever was measured (R24, R26). -/
theorem startFrame_some {d : Cam} {number : Byte} {n : Nat} (hs : slotsSafe c.ring.slots.toList)
    (hd : c.startFrame number n = some d) :
    slotsSafe d.ring.slots.toList ∧ d.ring.slots.toList.any Slot.isFilling = true ∧ d.port.frameOpen = true ∧
    d.ring.picture = c.ring.picture ∧ d.ring.staleTimer = c.ring.staleTimer ∧ d.ring.lostTimer = c.ring.lostTimer ∧
    d.port.config = c.port.config ∧ d.port.link = c.port.link ∧ d.port.wordTimer = c.port.wordTimer ∧
    d.port.linkPower = c.port.linkPower ∧ d.port.wasEnabled = c.port.wasEnabled := by
  unfold Cam.startFrame at hd
  rw [measure_reject, Option.map_eq_some_iff] at hd
  obtain ⟨t, ht, rfl⟩ := hd
  obtain ⟨t', ht', safe⟩ :=
    openFrame_reject number (r := c.ring.measure c.port.config.items n) (by simpa using hs)
  obtain rfl : t = t' := by simpa [ht] using ht'
  obtain ⟨hp, hst, hlt⟩ := measure_timers c.ring c.port.config.items n
  obtain ⟨k, -, rfl⟩ := openFrame_some ht
  exact ⟨safe, set_filling_fills _ k _, rfl, hp, hst, hlt, rfl, rfl, rfl, rfl, rfl⟩

theorem Cam.Ordered.startFrame (h : c.Ordered standby) (hl : c.port.link = .locked) {d : Cam} {number : Byte} {n : Nat}
    (hd : c.startFrame number n = some d) : d.Ordered standby := by
  obtain ⟨hs, hf, ho, hp, hst, hlt, hc, hk, ht, hpw, hw⟩ := startFrame_some h.slots hd
  exact h.framed hl hs (ho.trans hf.symm) (deadlinesSafe_congr hp hst hlt (h.liveDeadlines hl)) hc hk ht hpw hw

/-! ### Deadlines, claims and loads keep a camera in order (R23, R29, R30, R33, R34) -/

/-- A change of the picture and its deadlines alone. -/
theorem Cam.Ordered.redated (h : c.Ordered standby) {r : Ring} (hs : r.slots = c.ring.slots)
    (hd : deadlinesSafe r (c.port.config.enabled && c.port.linkPower)) :
    Cam.Ordered standby { c with ring := r } :=
  { h with
    slots := by simpa only [hs] using h.slots
    unlocked := by simpa only [hs] using h.unlocked
    open_eq := by simpa only [hs] using h.open_eq
    deadlines := hd }

/-- The stale deadline runs in FRESH only, so its expiry makes the picture STALE (R34). -/
theorem Cam.Ordered.expireStale (h : c.Ordered standby) (ht : c.ring.staleTimer.isSome = true) :
    Cam.Ordered standby { c with ring := c.ring.expireStale } := by
  refine h.redated rfl ?_
  have hd := h.deadlines
  cases hp : c.ring.picture <;> simp_all [deadlinesSafe, Ring.expireStale]

/-- The lost deadline runs only while the port is live, so its expiry makes the picture LOST (R33). -/
theorem Cam.Ordered.expireLost (h : c.Ordered standby) (ht : c.ring.lostTimer.isSome = true) :
    Cam.Ordered standby { c with ring := c.ring.expireLost } := by
  refine h.redated rfl ?_
  have hd := h.deadlines
  cases hp : c.ring.picture <;> simp_all [deadlinesSafe, Ring.expireLost]

theorem release_alike (r : Ring) : r.Alike r.release :=
  mapSlots_alike r _ release_slotsSafe (fun x => by cases x <;> rfl) rfl

theorem claim_alike (r : Ring) : r.Alike r.claim := by
  have hs := claim_slotsSafe (r := r)
  unfold Ring.claim at hs ⊢
  split at hs
  · rename_i hr
    rw [if_pos hr]
    exact mapSlots_alike r _ hs (fun x => by cases x <;> rfl) rfl
  · rename_i hr
    rw [if_neg hr]
    exact r.alike_refl

/-- A port acts on a loaded configuration by the table of R23, and its camera stays in order. -/
theorem Cam.Ordered.load (h : c.Ordered false) (config : PortConfig) (meter : MeterItems) (now : Nat) :
    (c.load config meter now).Ordered false := by
  obtain ⟨hw, hp⟩ := h.awake
  have taken (enabled : Bool) (link : LinkState) (he : enabled = c.port.config.enabled) (hl : c.port.link = link) :
      Cam.Ordered false
        ⟨{ c.port with config := ⟨enabled, config.items⟩, link := link }, c.ring, c.meter.load meter⟩ :=
    h.congrPort he hl.symm rfl rfl rfl rfl
  have enabled (hd : c.port.link ≠ .disabled) : c.port.config.enabled = true := by
    by_contra he
    exact hd (h.enabled_iff.1 (by simpa using he))
  unfold Cam.load
  dsimp only
  cases hl : c.port.link <;> cases he : config.enabled <;>
    simp only [loadAction, if_true, Bool.false_eq_true, if_false]
  case disabled.false => exact taken config.enabled _ (by rw [he, h.enabled_iff.2 hl]) hl
  case disabled.true => exact (taken false _ (h.enabled_iff.2 hl).symm hl).enable rfl now
  case down.true =>
    have hk : config.enabled = c.port.config.enabled := by rw [he, enabled (by simp [hl])]
    exact (taken config.enabled _ hk hl).examine rfl hp now
  case training.true | locked.true | failed.true =>
    have hk : config.enabled = c.port.config.enabled := by rw [he, enabled (by simp [hl])]
    exact (taken config.enabled _ hk hl).retrain (by simp) (by simp) now
  all_goals exact disable_ordered _ (by exact hw) (by exact hp) now

end

end Sys2Proof.Machine
end

section
/-! The state's cameras in order: every event, every request, every command and every step keeps them. -/

namespace Sys2Proof.Machine

/-! ### The state's cameras in order: what the shared operations keep -/

section
variable {s t : State}

/-- The order of the cameras depends on the cameras and on standby alone. -/
theorem State.camerasOrdered.congr (h : s.camerasOrdered) (hc : t.cams = s.cams) (hs : t.sig.standby = s.sig.standby) :
    t.camerasOrdered := by
  simpa only [State.camerasOrdered, hc, hs] using h

/-- One camera replaced by one that is in order. -/
theorem State.camerasOrdered.set (h : s.camerasOrdered) {i : Fin 4} {c : Cam} (hc : t.cams = s.cams.set i c)
    (hs : t.sig.standby = s.sig.standby) (ho : c.Ordered s.sig.standby) : t.camerasOrdered := by
  intro j
  have e : t.cams[j] = (s.setCam i c).cams[j] := by rw [hc]; rfl
  rw [e, State.setCam_cases, hs]
  split
  · exact ho
  · exact h j

theorem State.camerasOrdered.setCam (h : s.camerasOrdered) {i : Fin 4} {c : Cam} (ho : c.Ordered s.sig.standby) :
    (s.setCam i c).camerasOrdered :=
  h.set rfl rfl ho

theorem State.camerasOrdered.flushCam (h : s.camerasOrdered) {i : Fin 4} {c : Cam} (ho : c.Ordered s.sig.standby) :
    (s.flushCam i c).camerasOrdered :=
  h.set (s.flushCam_cams i c) (congrArg SignalUnit.standby (s.flushCam_sig i c)) ho

theorem State.camerasOrdered.settle (h : s.camerasOrdered) : s.settle.camerasOrdered := h.congr rfl rfl

/-- A wake leaves every camera in order for an awake part (R22). -/
theorem State.camerasOrdered.wake (h : s.camerasOrdered) : s.wake.camerasOrdered := by
  unfold State.wake
  split
  · intro i
    simpa using (h i).wake s.clock
  · exact h

/-- The signal unit's events reach the cameras by a wake alone (R139). -/
theorem State.camerasOrdered.signalEvent (h : s.camerasOrdered) {u : SignalUnit} (hu : u.standby = s.sig.standby) :
    (s.signalEvent u).camerasOrdered := by
  have taken : ({ s with sig := u } : State).camerasOrdered := h.congr rfl hu
  unfold State.signalEvent
  dsimp only
  split
  · exact taken.wake.congr (State.handOn_cams _ _) (by rw [State.handOn_sig])
  · exact taken.congr (State.handOn_cams _ _) (by rw [State.handOn_sig])

/-- The same at a timer's instant. -/
theorem State.camerasOrdered.signalAt (h : s.camerasOrdered) (d : Timer) {u : SignalUnit}
    (hu : u.standby = s.sig.standby) : ((s.atInstant d).signalEvent u).camerasOrdered := by
  refine State.camerasOrdered.signalEvent ?_ hu
  exact h.congr rfl rfl

/-! ### Resets (R20, R43) -/

theorem cutSave_cams (s : State) : s.cutSave.cams = s.cams := by unfold State.cutSave; split <;> rfl
theorem cutSave_sig (s : State) : s.cutSave.sig = s.sig := by unfold State.cutSave; split <;> rfl

/-- A reset leaves every camera in order, whatever the state before it. -/
theorem restart_camerasOrdered (s : State) (p : Profile) (fault : Bool) :
    ((s.restartBlocks p).restartStatus fault).camerasOrdered := by
  have blocks : (s.restartBlocks p).camerasOrdered := by
    intro i
    have e : (s.restartBlocks p).cams[i] = (s.cams[i]).restart p.ports[i] p.meters[i] s.clock := by
      simp [State.restartBlocks]
    rw [e]
    exact restart_ordered _ _ _ _
  unfold State.restartStatus
  dsimp only
  split <;> exact blocks.congr rfl rfl

theorem softReset_camerasOrdered (s : State) : s.softReset.camerasOrdered := restart_camerasOrdered _ _ _

theorem powerOn_camerasOrdered (s : State) (rate : Fin 4) : (s.powerOn rate).camerasOrdered :=
  restart_camerasOrdered _ _ _

/-! ### Collisions and the arrival of a frame (R170, R173) -/

theorem State.camerasOrdered.afterReply (h : s.camerasOrdered) (r : Reply) : (s.afterReply r).camerasOrdered := by
  unfold State.afterReply
  split
  · exact softReset_camerasOrdered s
  · exact h

theorem State.camerasOrdered.collide (h : s.camerasOrdered) : s.collide.camerasOrdered := by
  unfold State.collide
  split
  · refine State.camerasOrdered.afterReply ?_ _
    exact h.congr rfl rfl
  · exact h.congr rfl rfl

theorem State.camerasOrdered.controllerByte (h : s.camerasOrdered) : s.controllerByte.camerasOrdered := by
  unfold State.controllerByte
  split
  · exact h.collide
  · exact h

theorem State.camerasOrdered.receiveByte (h : s.camerasOrdered) (b : Byte) (f : Bool) :
    (s.receiveByte b f).1.camerasOrdered :=
  h.controllerByte.congr rfl rfl

theorem State.camerasOrdered.receiveQuiet (h : s.camerasOrdered) {bytes : List Byte}
    (hr : s.receiveQuiet bytes = some t) : t.camerasOrdered := by
  induction bytes generalizing s with
  | nil => exact Option.some.inj hr ▸ h
  | cons b rest ih =>
    unfold State.receiveQuiet at hr
    split at hr
    · rename_i u hu
      exact ih (by simpa only [hu] using h.receiveByte b false) hr
    · cases hr

theorem State.camerasOrdered.receiveLast (h : s.camerasOrdered) {bytes : List Byte} {last : Byte} {f : Bool}
    {e : RxEvent} (hr : s.receiveLast bytes last f = some (t, e)) : t.camerasOrdered := by
  unfold State.receiveLast at hr
  rw [Option.map_eq_some_iff] at hr
  obtain ⟨u, hu, hl⟩ := hr
  simpa only [hl] using (h.receiveQuiet hu).receiveByte last f

/-- A frame's arrival leaves every camera in order and the part awake (R139, R170). -/
theorem State.camerasOrdered.frameArrives (h : s.camerasOrdered) : s.frameArrives.camerasOrdered := by
  unfold State.frameArrives
  dsimp only
  split
  · refine State.camerasOrdered.settle (State.camerasOrdered.wake ?_)
    exact h.controllerByte.congr rfl rfl
  · exact h.controllerByte.congr rfl rfl

theorem frameArrives_standby (s : State) : s.frameArrives.sig.standby = false := by
  unfold State.frameArrives
  dsimp only
  split
  · exact wake_standby _
  · rename_i h
    simpa using h

/-! ### Events and requests -/

/-- An event keeps the order of the cameras when its effect does. -/
theorem event_camerasOrdered {occurs : Bool} {effect : State → State} (h : s.camerasOrdered)
    (hx : event s occurs effect = .next t) (he : occurs = true → (effect s).camerasOrdered) : t.camerasOrdered := by
  rcases event_cases hx with rfl | ⟨-, ho, rfl⟩
  · exact h
  · exact (he ho).settle

/-- A request keeps the order of the cameras when its owner's answer does, in an awake part. -/
theorem request_camerasOrdered {type : Byte} {g : Header} {lengthOk : Bool} {owner : State → Answer}
    (h : s.camerasOrdered)
    (hx : request type g lengthOk owner s = .next t)
    (ho : ∀ u : State, u.camerasOrdered → u.sig.standby = false → (owner u).state.camerasOrdered) : t.camerasOrdered := by
  rcases request_cases hx with rfl | ⟨-, ⟨-, rfl⟩ | ⟨-, rfl⟩⟩
  · exact h
  · exact State.camerasOrdered.congr (ho _ h.frameArrives (frameArrives_standby s)) rfl rfl
  · exact State.camerasOrdered.congr h.frameArrives rfl rfl

/-- The answer leaves the cameras and the signal unit as they are. -/
def Answer.sparesCameras (a : Answer) (s : State) : Prop := a.state.cams = s.cams ∧ a.state.sig = s.sig

/-- A request whose owner leaves the cameras and the signal unit alone. -/
theorem request_spares {type : Byte} {g : Header} {lengthOk : Bool} {owner : State → Answer} (h : s.camerasOrdered)
    (hx : request type g lengthOk owner s = .next t) (ho : ∀ u : State, (owner u).sparesCameras u) :
    t.camerasOrdered :=
  request_camerasOrdered h hx fun u hu _ => hu.congr (ho u).1 (congrArg SignalUnit.standby (ho u).2)

end

/-! ### The owners outside the cameras leave them alone -/

section
variable (s : State)

theorem refuse_spares (code : ResultCode) : (refuse s code).sparesCameras s := ⟨rfl, rfl⟩
theorem accept_spares (data : ReplyData) : (accept s data).sparesCameras s := ⟨rfl, rfl⟩
theorem acceptOutput_spares (d : Display) : (acceptOutput s d).sparesCameras s := ⟨rfl, rfl⟩

theorem answerMeshBegin_spares (slot cols rows : Nat) : (answerMeshBegin slot cols rows s).sparesCameras s := by
  unfold answerMeshBegin
  repeat' split
  all_goals exact ⟨rfl, rfl⟩

theorem answerMeshRows_spares (slot row : Nat) (nodes : List Node) : (answerMeshRows slot row nodes s).sparesCameras s := by
  unfold answerMeshRows
  repeat' split
  all_goals exact ⟨rfl, rfl⟩

theorem answerMeshEnd_spares (slot : Nat) : (answerMeshEnd slot s).sparesCameras s := by
  unfold answerMeshEnd
  repeat' split
  all_goals exact ⟨rfl, rfl⟩

theorem answerMeshFree_spares (slot : Nat) : (answerMeshFree slot s).sparesCameras s := by
  unfold answerMeshFree
  repeat' split
  all_goals exact ⟨rfl, rfl⟩

theorem answerDefineView_spares (view : Nat) (tiles : List TileFields) :
    (answerDefineView view tiles s).sparesCameras s := by
  unfold answerDefineView
  split <;> exact ⟨rfl, rfl⟩

theorem answerOverlayClear_spares (view : Nat) : (answerOverlayClear view s).sparesCameras s := by
  unfold answerOverlayClear
  repeat' split
  all_goals exact ⟨rfl, rfl⟩

theorem answerOverlayAppend_spares (view : Nat) (prims : List PrimFields) :
    (answerOverlayAppend view prims s).sparesCameras s := by
  unfold answerOverlayAppend
  dsimp only
  repeat' split
  all_goals exact ⟨rfl, rfl⟩

theorem answerDeleteView_spares (view : Nat) : (answerDeleteView view s).sparesCameras s := by
  unfold answerDeleteView
  repeat' split
  all_goals exact ⟨rfl, rfl⟩

theorem answerReadView_spares (view : Nat) (part : ViewPart) : (answerReadView view part s).sparesCameras s := by
  unfold answerReadView
  repeat' split
  all_goals exact ⟨rfl, rfl⟩

theorem answerSetEntry_spares (entry : Nat) (fields : EntryFields) : (answerSetEntry entry fields s).sparesCameras s := by
  unfold answerSetEntry
  repeat' split
  all_goals exact ⟨rfl, rfl⟩

theorem answerClearEntry_spares (entry : Nat) : (answerClearEntry entry s).sparesCameras s := by
  unfold answerClearEntry
  split <;> exact ⟨rfl, rfl⟩

theorem answerSetDefault_spares (view : Nat) : (answerSetDefault view s).sparesCameras s := by
  unfold answerSetDefault
  repeat' split
  all_goals exact ⟨rfl, rfl⟩

theorem answerOverride_spares (view rank duration : Nat) : (answerOverride view rank duration s).sparesCameras s := by
  unfold answerOverride
  repeat' split
  all_goals exact ⟨rfl, rfl⟩

theorem answerCancelOverride_spares : (answerCancelOverride s).sparesCameras s := by
  unfold answerCancelOverride
  split <;> exact ⟨rfl, rfl⟩

theorem answerReadSelection_spares (part : SelectionPart) : (answerReadSelection part s).sparesCameras s := by
  unfold answerReadSelection
  repeat' split
  all_goals exact ⟨rfl, rfl⟩

theorem answerOutputHold_spares : (answerOutputHold s).sparesCameras s := by
  unfold answerOutputHold
  repeat' split
  all_goals exact ⟨rfl, rfl⟩

theorem answerOutputResume_spares : (answerOutputResume s).sparesCameras s := by
  unfold answerOutputResume
  split <;> exact ⟨rfl, rfl⟩

theorem answerSetOutputTiming_spares (timing : Nat) : (answerSetOutputTiming timing s).sparesCameras s := by
  unfold answerSetOutputTiming
  repeat' split
  all_goals exact ⟨rfl, rfl⟩

theorem answerReadError_spares : (answerReadError s).sparesCameras s := by
  unfold answerReadError
  split <;> exact ⟨rfl, rfl⟩

theorem answerSaveProfile_spares (slot : Nat) : (answerSaveProfile slot s).sparesCameras s := by
  unfold answerSaveProfile
  repeat' split
  all_goals exact ⟨rfl, rfl⟩

end

/-! ### The owners of the cameras -/

section
variable {s t : State} (h : s.camerasOrdered)
include h

theorem onCamera_ordered {cam : Nat} {f : Fin 4 → Answer} (hf : ∀ i, (f i).state.camerasOrdered) :
    (onCamera cam s f).state.camerasOrdered := by
  unfold onCamera
  split
  · exact hf _
  · exact h

theorem answerSetCameraConfig_ordered (cam : Nat) (items : PortItems) :
    (answerSetCameraConfig cam items s).state.camerasOrdered := by
  refine onCamera_ordered h fun i => ?_
  dsimp only
  repeat' split
  · exact h
  · exact h
  · exact h.setCam ((h i).congrPort rfl rfl rfl rfl rfl rfl)

theorem answerSetMetering_ordered (cam : Nat) (items : MeterItems) :
    (answerSetMetering cam items s).state.camerasOrdered := by
  refine onCamera_ordered h fun i => ?_
  dsimp only
  split
  · exact h.setCam ((h i).congrPort rfl rfl rfl rfl rfl rfl)
  · exact h

theorem answerCameraEnable_ordered (cam : Nat) : (answerCameraEnable cam s).state.camerasOrdered := by
  refine onCamera_ordered h fun i => ?_
  split
  · rename_i hl
    exact h.setCam ((h i).enable hl _)
  · exact h

theorem answerCameraRetrain_ordered (cam : Nat) : (answerCameraRetrain cam s).state.camerasOrdered := by
  refine onCamera_ordered h fun i => ?_
  split
  · exact h
  · exact h
  · rename_i hd hn
    exact h.flushCam ((h i).retrain hd hn _)

theorem answerCameraReport_ordered (cam : Nat) : (answerCameraReport cam s).state.camerasOrdered :=
  onCamera_ordered h fun _ => h

theorem answerEnterStandby_ordered : (answerEnterStandby s).state.camerasOrdered := by
  unfold answerEnterStandby
  split
  · exact h
  · intro i
    have e : (accept s.enterStandby .nothing).state.cams[i] =
        if (s.cams[i]).port.config.enabled then (s.cams[i]).enterStandby s.clock else s.cams[i] := by
      simp [accept, State.enterStandby, State.discardContext]
    rw [e]
    split
    · rename_i he
      exact enterStandby_ordered _ he _
    · exact (h i).inStandby

theorem answerSetSignalConfig_ordered (fields : SignalConfigFields) :
    (answerSetSignalConfig fields s).state.camerasOrdered := by
  unfold answerSetSignalConfig
  split
  · exact h.signalEvent rfl
  · exact h

section
variable (hs : s.sig.standby = false)
include hs

theorem answerCameraDisable_ordered (cam : Nat) : (answerCameraDisable cam s).state.camerasOrdered := by
  refine onCamera_ordered h fun i => ?_
  split
  · exact h
  · obtain ⟨hw, hp⟩ := Cam.Ordered.awake (hs ▸ h i)
    exact h.flushCam (disable_ordered _ hw hp _)

/-- Loading one camera's part of a profile keeps the order (R23). -/
theorem loadCam_ordered (p : Profile) (i : Fin 4) :
    (s.loadCam p i).camerasOrdered ∧ (s.loadCam p i).sig.standby = false := by
  have ho : ((s.cams[i]).load p.ports[i] p.meters[i] s.clock).Ordered s.sig.standby := by
    rw [hs]
    exact Cam.Ordered.load (hs ▸ h i) _ _ _
  unfold State.loadCam
  dsimp only
  split
  · exact ⟨h.set (i := i) (by simp) (by simp) ho, by simpa using hs⟩
  · exact ⟨h.setCam ho, hs⟩

theorem loadProfile_ordered (p : Profile) : (s.loadProfile p).camerasOrdered := by
  have start : s.advanceDrawing.withdrawMeshes.camerasOrdered := h.congr (by simp) (by simp)
  obtain ⟨h0, hs0⟩ := loadCam_ordered start (by simpa using hs) p 0
  obtain ⟨h1, hs1⟩ := loadCam_ordered h0 hs0 p 1
  obtain ⟨h2, hs2⟩ := loadCam_ordered h1 hs1 p 2
  obtain ⟨h3, -⟩ := loadCam_ordered h2 hs2 p 3
  exact h3.congr (by simp [State.loadProfile, State.loadSelector]) (by simp [State.loadProfile, State.loadSelector, SignalUnit.configure])

theorem answerLoadProfile_ordered (slot : Nat) : (answerLoadProfile slot s).state.camerasOrdered := by
  unfold answerLoadProfile
  split
  · exact h
  · split
    · exact h
    · split
      · repeat' split
        · exact h.congr rfl rfl
        · exact h
        · exact loadProfile_ordered h hs _
      · exact h

end
end

/-! ### The camera links' events -/

section
variable {s t : State} (h : s.camerasOrdered) {cam : Fin 4}
include h

theorem setCarrier_ordered (cam : Fin 4) (level : Bool) : (s.setCarrier cam level).camerasOrdered :=
  h.setCam ((h cam).congrPort rfl rfl rfl rfl rfl rfl)

theorem execCarrierPresent_ordered (hx : execCarrierPresent cam s = .next t) : t.camerasOrdered := by
  have noted := setCarrier_ordered h cam true
  have same : (s.setCarrier cam true).cams[cam] =
      { s.cams[cam] with port := { s.cams[cam].port with carrier := true } } := State.setCam_same _ _ _
  unfold execCarrierPresent at hx
  split at hx
  · refine event_camerasOrdered h hx fun _ => ?_
    dsimp only
    split
    · rename_i hl
      exact noted.setCam ((noted cam).sweep (by rw [same]; exact hl.1) (by rw [same]; exact hl.2) _)
    · exact noted
  · injection hx with hx
    exact hx ▸ noted

theorem execCarrierLost_ordered (hx : execCarrierLost cam s = .next t) : t.camerasOrdered := by
  have noted := setCarrier_ordered h cam false
  have same : (s.setCarrier cam false).cams[cam] =
      { s.cams[cam] with port := { s.cams[cam].port with carrier := false } } := State.setCam_same _ _ _
  have lost (hd : s.cams[cam].port.link ≠ .disabled) (hn : s.cams[cam].port.link ≠ .down) :
      ((s.setCarrier cam false).flushCam cam
        (((s.setCarrier cam false).cams[cam]).loseCarrier s.clock)).camerasOrdered :=
    noted.flushCam ((noted cam).loseCarrier (by rw [same]; exact hd) (by rw [same]; exact hn) _)
  unfold execCarrierLost at hx
  split at hx
  · refine event_camerasOrdered h hx fun _ => ?_
    dsimp only
    split
    · rename_i hl; exact lost (by rw [hl]; nofun) (by rw [hl]; nofun)
    · rename_i hl; exact lost (by rw [hl]; nofun) (by rw [hl]; nofun)
    · rename_i hl; exact lost (by rw [hl]; nofun) (by rw [hl]; nofun)
    · exact noted
  · injection hx with hx
    exact hx ▸ noted

theorem execTrainingWord_ordered {word : BitVec 10} (hx : execTrainingWord cam word s = .next t) : t.camerasOrdered := by
  refine event_camerasOrdered h hx fun hl => ?_
  have hl : s.cams[cam].port.link = .training := by simpa using hl
  exact h.setCam ((h cam).trains hl (takeWord_trains ((h cam).attempts hl) _ _))

theorem execWordTimerExpiry_ordered (hx : execWordTimerExpiry cam s = .next t) : t.camerasOrdered := by
  refine event_camerasOrdered h hx fun hl => ?_
  have hl : s.cams[cam].port.link = .training := by simp at hl; exact hl.1
  exact h.set rfl rfl ((h cam).trains hl (timeOut_trains ((h cam).attempts hl) _))

theorem execFrameStart_ordered {number : Byte} (hx : execFrameStart cam number s = .next t) : t.camerasOrdered := by
  unfold execFrameStart at hx
  split at hx
  · rename_i hl
    split at hx
    · rename_i c hc
      injection hx with hx
      exact hx ▸ (h.setCam ((h cam).startFrame hl.2 hc)).settle
    · cases hx
  · injection hx with hx
    exact hx ▸ h

theorem execLine_ordered {index check : BitVec 16} {pixels : List Pixel}
    (hx : execLine cam index pixels check s = .next t) : t.camerasOrdered :=
  event_camerasOrdered h hx (fun _ => h.setCam ((h cam).takeLine index pixels check))

theorem judgeFrame_ordered {c : Cam} (hc : c.Ordered s.sig.standby) (hl : c.port.link = .locked) :
    (s.judgeFrame cam c).camerasOrdered := by
  unfold State.judgeFrame
  split
  · dsimp only
    split
    · exact h.setCam (hc.acceptFrame hl _ _ _)
    · have hr := hc.rejectFrame hl
      have hlr : c.rejectFrame.port.link = .locked := hl
      split
      · exact h.flushCam (hr.retrain (by simp [hlr]) (by simp [hlr]) _)
      · exact h.setCam hr
  · rename_i hf
    exact h.setCam (hc.closeFrame hl hf)

theorem execFrameEnd_ordered {lineCount : Nat} (hx : execFrameEnd cam lineCount s = .next t) : t.camerasOrdered := by
  refine event_camerasOrdered h hx fun hl => ?_
  have hl : s.cams[cam].port.link = .locked := by simp at hl; exact hl.1
  obtain ⟨n, hn⟩ := repairLines_port s.cams[cam] s.cams[cam].port.expectedLine
    (s.cams[cam].port.config.items.height - s.cams[cam].port.expectedLine)
  exact judgeFrame_ordered h ((h cam).repairLines _ _) ((congrArg Port.link hn).trans hl)

theorem execStaleDeadlineExpiry_ordered (hx : execStaleDeadlineExpiry cam s = .next t) : t.camerasOrdered :=
  event_camerasOrdered h hx (fun ht => h.set rfl rfl ((h cam).expireStale ht))

theorem execLostDeadlineExpiry_ordered (hx : execLostDeadlineExpiry cam s = .next t) : t.camerasOrdered :=
  event_camerasOrdered h hx (fun ht => h.set rfl rfl ((h cam).expireLost ht))

end

/-! ### The other events -/

/-- Taking the entries and the speed of a SIGNAL_UPDATE leaves standby alone. -/
theorem update_standby (u : SignalUnit) (mask values : BitVec 16) (speed : Option Byte) (now : Nat) :
    (u.update mask values speed now).standby = u.standby := by
  unfold SignalUnit.update
  dsimp only
  split <;> rfl

section
variable {s t : State} (h : s.camerasOrdered)
include h

/-- The claims and releases of an output frame start keep the order (R29, R30). -/
theorem composeView_ordered (v : Sys2Proof.View) : (s.composeView v).camerasOrdered := by
  have claimed : ({ s with cams := s.claimCams v } : State).camerasOrdered := by
    intro i
    have e : (s.claimCams v)[i] =
        { s.cams[i] with ring := if View.uses v i then (s.cams[i]).ring.claim else (s.cams[i]).ring.release } := by
      simp [State.claimCams]
    have alike : (s.cams[i]).ring.Alike
        (if View.uses v i then (s.cams[i]).ring.claim else (s.cams[i]).ring.release) := by
      split
      · exact claim_alike _
      · exact release_alike _
    show ((s.claimCams v)[i]).Ordered s.sig.standby
    rw [e]
    exact (h i).congr alike rfl rfl rfl rfl rfl rfl
  unfold State.composeView
  dsimp only
  split <;> exact claimed.congr rfl rfl

theorem endComposedFrame_ordered : s.endComposedFrame.camerasOrdered := by
  unfold State.endComposedFrame
  split
  · exact h
  · exact h.congr rfl rfl

theorem execOutputFrameStart_ordered (hx : execOutputFrameStart s = .next t) : t.camerasOrdered := by
  have moved : (s.atInstant s.disp.nextStart).camerasOrdered := h.congr rfl rfl
  unfold execOutputFrameStart at hx
  split at hx
  · split at hx
    · rename_i u hu
      injection hx with hx
      rw [← hx]
      refine State.camerasOrdered.settle ?_
      unfold State.startFrame at hu
      split at hu
      · exact Option.some.inj hu ▸ moved
      · exact Option.some.inj hu ▸ moved.congr rfl rfl
      · exact Option.some.inj hu ▸ moved.congr rfl rfl
      · exact Option.some.inj hu ▸ (endComposedFrame_ordered moved).congr rfl rfl
      · have ended := endComposedFrame_ordered moved
        dsimp only at hu
        split at hu
        · exact Option.some.inj hu ▸ ended.congr rfl rfl
        · rw [Option.map_eq_some_iff] at hu
          obtain ⟨v, -, rfl⟩ := hu
          exact (composeView_ordered ended v).congr rfl rfl
    · cases hx
  · injection hx with hx
    exact hx ▸ h

theorem execRawChange_ordered {wire : Fin 6} {level : Bool} (hx : execRawChange wire level s = .next t) :
    t.camerasOrdered := by
  unfold execRawChange at hx
  split at hx
  · exact event_camerasOrdered h hx (fun _ => h.signalEvent rfl)
  · injection hx with hx
    rw [← hx]
    exact h.congr rfl rfl

theorem execSignalUpdate_ordered {g : Header} {mask values : Byte × Byte} {speed : Byte}
    (hx : execSignalUpdate g mask values speed s = .next t) : t.camerasOrdered := by
  unfold execSignalUpdate at hx
  split at hx
  · dsimp only at hx
    split at hx
    · injection hx with hx
      exact hx ▸ (h.frameArrives.signalEvent (update_standby _ _ _ _ _)).settle
    · injection hx with hx
      exact hx ▸ h.frameArrives.settle
  · injection hx with hx
    exact hx ▸ h

theorem execLinkFraming_ordered {bytes : List Byte} {last : Byte} {f : Bool}
    (hx : execLinkFraming bytes last f s = .next t) : t.camerasOrdered := by
  unfold execLinkFraming at hx
  split at hx
  · split at hx <;> injection hx with hx <;> rw [← hx]
    · rename_i hr
      exact (h.receiveLast hr).congr rfl rfl
    · rename_i hr
      exact (h.receiveLast hr).settle
    · exact h
  · injection hx with hx
    exact hx ▸ h

theorem execLinkGap_ordered {bytes : List Byte} (hx : execLinkGap bytes s = .next t) : t.camerasOrdered := by
  unfold execLinkGap at hx
  split at hx
  · split at hx
    · rename_i u hu
      have quiet := h.receiveQuiet hu
      split at hx <;> injection hx with hx <;> rw [← hx]
      · exact quiet.congr rfl rfl
      · split
        · exact h
        · exact quiet.settle
    · injection hx with hx
      exact hx ▸ h
  · injection hx with hx
    exact hx ▸ h

theorem execLinkCheck_ordered {bytes : List Byte} (hx : execLinkCheck bytes s = .next t) : t.camerasOrdered := by
  unfold execLinkCheck at hx
  split at hx
  · split at hx <;> injection hx with hx <;> rw [← hx]
    · rename_i hr
      obtain ⟨last, -, hr⟩ := Option.bind_eq_some_iff.1 hr
      exact (h.receiveLast hr).congr rfl rfl
    · rename_i hr
      obtain ⟨last, -, hr⟩ := Option.bind_eq_some_iff.1 hr
      exact (h.receiveLast hr).settle
    · exact h
  · injection hx with hx
    exact hx ▸ h

theorem execUnknownType_ordered {type : Byte} {g : Header} (hx : execUnknownType type g s = .next t) :
    t.camerasOrdered := by
  unfold execUnknownType at hx
  split at hx <;> injection hx with hx <;> rw [← hx]
  · exact h.frameArrives.congr rfl rfl
  · exact h

theorem execReplyEnd_ordered (hx : execReplyEnd s = .next t) : t.camerasOrdered := by
  refine event_camerasOrdered h hx fun _ => ?_
  dsimp only
  split
  · refine State.camerasOrdered.afterReply ?_ _
    exact h.congr rfl rfl
  · exact h

theorem execMeshInactivityExpiry_ordered (hx : execMeshInactivityExpiry s = .next t) : t.camerasOrdered := by
  refine event_camerasOrdered h hx fun _ => ?_
  split
  · exact h.congr rfl rfl
  · exact h

theorem execProfileSaveCompletion_ordered {verified : Bool} (hx : execProfileSaveCompletion verified s = .next t) :
    t.camerasOrdered := by
  refine event_camerasOrdered h hx fun _ => ?_
  split
  · cases verified <;> exact h.congr rfl rfl
  · exact h

theorem execPowerLoss_ordered (hx : execPowerLoss s = .next t) : t.camerasOrdered := by
  unfold execPowerLoss at hx
  split at hx <;> injection hx with hx <;> rw [← hx]
  · exact h.congr (cutSave_cams s) (congrArg SignalUnit.standby (cutSave_sig s))
  · exact h

theorem execMeshRows_ordered {g : Header} {slot row : Byte} {nodes : List Byte}
    (hx : execMeshRows g slot row nodes s = .next t) : t.camerasOrdered := by
  unfold execMeshRows at hx
  split at hx
  · exact request_spares h hx (answerMeshRows_spares · _ _ _)
  · exact request_spares h hx (refuse_spares · _)

end

/-! ### Every command and every step -/

/-- Every command keeps the cameras in order. -/
theorem exec_camerasOrdered (c : Instr) (s t : State) (h : s.camerasOrdered) (hx : exec c s = .next t) :
    t.camerasOrdered := by
  cases c <;> dsimp only [exec] at hx
  case powerOnReset a b => exact Host.Outcome.next.inj hx ▸ powerOn_camerasOrdered s _
  case powerLoss => exact execPowerLoss_ordered h hx
  case carrierPresent cam => exact execCarrierPresent_ordered h hx
  case carrierLost cam => exact execCarrierLost_ordered h hx
  case trainingWord cam word => exact execTrainingWord_ordered h hx
  case wordTimerExpiry cam => exact execWordTimerExpiry_ordered h hx
  case frameStart cam number => exact execFrameStart_ordered h hx
  case line cam index pixels check => exact execLine_ordered h hx
  case frameEnd cam lineCount => exact execFrameEnd_ordered (lineCount := lineCount) h hx
  case staleDeadlineExpiry cam => exact execStaleDeadlineExpiry_ordered h hx
  case lostDeadlineExpiry cam => exact execLostDeadlineExpiry_ordered h hx
  case meshInactivityExpiry => exact execMeshInactivityExpiry_ordered h hx
  case outputFrameStart => exact execOutputFrameStart_ordered h hx
  case settleTimerExpiry => exact event_camerasOrdered h hx (fun _ => h.congr rfl rfl)
  case holdTimerExpiry => exact event_camerasOrdered h hx (fun _ => h.congr rfl rfl)
  case rawChange wire level => exact execRawChange_ordered h hx
  case debounceTimerExpiry wire =>
    exact event_camerasOrdered h hx (fun _ => h.signalAt _ rfl)
  case refreshTimerExpiry signal =>
    exact event_camerasOrdered h hx (fun _ => h.signalAt _ rfl)
  case speedTimerExpiry =>
    exact event_camerasOrdered h hx (fun _ => h.signalAt _ rfl)
  case releaseTimerExpiry entry => exact event_camerasOrdered h hx (fun _ => h.congr rfl rfl)
  case overrideExpiry => exact event_camerasOrdered h hx (fun _ => h.congr rfl rfl)
  case profileSaveCompletion verified => exact execProfileSaveCompletion_ordered h hx
  case linkFraming bytes last f => exact execLinkFraming_ordered h hx
  case linkGap bytes => exact execLinkGap_ordered h hx
  case linkCheck bytes => exact execLinkCheck_ordered h hx
  case unknownType type g => exact execUnknownType_ordered h hx
  case replyStart => exact event_camerasOrdered h hx (fun _ => h.congr rfl rfl)
  case replyEnd => exact execReplyEnd_ordered h hx
  case noticeStart => exact event_camerasOrdered h hx (fun _ => h.congr rfl rfl)
  case noticeEnd => exact event_camerasOrdered h hx (fun _ => h.congr rfl rfl)
  case collision byte f => exact event_camerasOrdered h hx (fun _ => h.receiveByte byte f)
  case identify g => exact request_spares h hx (accept_spares · _)
  case resetPart g => exact request_spares h hx (accept_spares · _)
  case setCameraConfig g cam items =>
    exact request_camerasOrdered h hx (fun _ hu _ => answerSetCameraConfig_ordered hu _ _)
  case cameraEnable g cam => exact request_camerasOrdered h hx (fun _ hu _ => answerCameraEnable_ordered hu _)
  case cameraDisable g cam => exact request_camerasOrdered h hx (fun _ hu hs => answerCameraDisable_ordered hu hs _)
  case cameraRetrain g cam => exact request_camerasOrdered h hx (fun _ hu _ => answerCameraRetrain_ordered hu _)
  case readCameraReport g cam => exact request_camerasOrdered h hx (fun _ hu _ => answerCameraReport_ordered hu _)
  case setMetering g cam items => exact request_camerasOrdered h hx (fun _ hu _ => answerSetMetering_ordered hu _ _)
  case meshBegin g slot cols rows => exact request_spares h hx (answerMeshBegin_spares · _ _ _)
  case meshRows g slot row nodes => exact execMeshRows_ordered h hx
  case meshEnd g slot => exact request_spares h hx (answerMeshEnd_spares · _)
  case meshFree g slot => exact request_spares h hx (answerMeshFree_spares · _)
  case defineView g view count tiles => exact request_spares h hx (answerDefineView_spares · _ _)
  case overlayClear g view => exact request_spares h hx (answerOverlayClear_spares · _)
  case overlayAppend g view count prims => exact request_spares h hx (answerOverlayAppend_spares · _ _)
  case deleteView g view => exact request_spares h hx (answerDeleteView_spares · _)
  case readView g view part => exact request_spares h hx (answerReadView_spares · _ _)
  case setSelectionEntry g entry fields => exact request_spares h hx (answerSetEntry_spares · _ _)
  case clearSelectionEntry g entry => exact request_spares h hx (answerClearEntry_spares · _)
  case setDefaultView g view => exact request_spares h hx (answerSetDefault_spares · _)
  case overrideView g view rank duration => exact request_spares h hx (answerOverride_spares · _ _ _)
  case cancelOverride g => exact request_spares h hx answerCancelOverride_spares
  case readSelection g part => exact request_spares h hx (answerReadSelection_spares · _)
  case signalUpdate g mask values speed => exact execSignalUpdate_ordered h hx
  case setSignalConfig g config =>
    exact request_camerasOrdered h hx (fun _ hu _ => answerSetSignalConfig_ordered hu _)
  case readSignals g => exact request_spares h hx (accept_spares · _)
  case enterStandby g => exact request_camerasOrdered h hx (fun _ hu _ => answerEnterStandby_ordered hu)
  case outputEnable g => exact request_spares h hx (acceptOutput_spares · _)
  case outputDisable g => exact request_spares h hx (acceptOutput_spares · _)
  case outputHold g => exact request_spares h hx answerOutputHold_spares
  case outputResume g => exact request_spares h hx answerOutputResume_spares
  case setOutputTiming g timing => exact request_spares h hx (answerSetOutputTiming_spares · _)
  case readConditions g => exact request_spares h hx (accept_spares · _)
  case readEvents g => exact request_spares h hx (fun _ => ⟨rfl, rfl⟩)
  case setEventEnable g mask => exact request_spares h hx (fun _ => ⟨rfl, rfl⟩)
  case readError g => exact request_spares h hx answerReadError_spares
  case saveProfile g slot => exact request_spares h hx (answerSaveProfile_spares · _)
  case loadProfile g slot => exact request_camerasOrdered h hx (fun _ hu hs => answerLoadProfile_ordered hu hs _)

/-- Settles O56: the order of the cameras is kept by every command, and it looks at neither the queue, the clock nor the
counter of free values. -/
theorem stepKeepsCamerasInOrder : Obligations.StepKeepsCamerasInOrder := by
  intro s t hr hc hx
  rw [← camerasOrdered_iff]
  exact step_keeps (P := State.camerasOrdered) (fun _ _ h => h.congr rfl rfl) (fun _ _ h => h.congr rfl rfl)
    (fun _ _ h => h.congr rfl rfl) exec_camerasOrdered ((camerasOrdered_iff s).2 ⟨hr, hc⟩) hx

end Sys2Proof.Machine
end

section
/-! What the camera ports do, tied to the rules as Safety.lean writes them out, and the camera links' level changes, training words
and deadlines (R2, R7, R9 to R12, R33, R34). -/

namespace Sys2Proof.Machine

/-! ### The model's operations are the rules of Safety.lean -/

section
variable (p : Port) (now : Nat)

theorem failAttempt_eq_attemptFailed (r : TrainingRecord) (hl : p.link = .training) :
    Port.failAttempt { p with record := r } now = p.attemptFailed r now := by
  unfold Port.failAttempt Port.attemptFailed
  dsimp only
  split
  · simp only [Port.beginAttempt, Port.attempting, hl]
    rfl
  · rfl

end

/-- An event that does not occur changes nothing. -/
theorem event_idle (s : State) {occurs : Bool} (effect : State → State) (h : occurs = false) :
    event s occurs effect = .next s := by
  rw [event, h, Bool.and_false]
  rfl

/-! ### One camera changed twice -/

section
variable (s : State) (i : Fin 4) (c d : Cam)

theorem onCam_eq (f : Cam → Cam) : s.onCam i f = s.setCam i (f s.cams[i]) := rfl

@[simp] theorem setCam_setCam : (s.setCam i c).setCam i d = s.setCam i d := by
  simp [State.setCam]

@[simp] theorem setCam_onCam (f : Cam → Cam) : (s.setCam i c).onCam i f = s.setCam i (f c) := by
  rw [onCam_eq, State.setCam_same, setCam_setCam]

/-- The composer draws on whatever the cameras are. -/
theorem advanceDrawing_setCam : (s.setCam i c).advanceDrawing = s.advanceDrawing.setCam i c := by
  unfold State.advanceDrawing
  rw [State.setCam_comp]
  split <;> rfl

theorem withdrawSlot_setCam : (s.setCam i c).withdrawSlot i = (s.withdrawSlot i).setCam i c := by
  unfold State.withdrawSlot
  rw [State.setCam_comp]
  split
  · rfl
  · split <;> rfl

/-- A flush leaves the camera as it says, whatever the camera was just before. -/
@[simp] theorem setCam_flushCam : (s.setCam i c).flushCam i d = s.flushCam i d := by
  simp only [State.flushCam, advanceDrawing_setCam, withdrawSlot_setCam, setCam_setCam]

end

/-! ### The carrier detect level (R7) -/

theorem setCarrier_eq (s : State) (i : Fin 4) (level : Bool) :
    s.setCarrier i level = s.setCam i { s.cams[i] with port := { s.cams[i].port with carrier := level } } := rfl

theorem exec_carrierPresent {s : State} (hp : s.powered = true) (i : Fin 4) :
    exec (.carrierPresent i) s = .next (State.settle
      (if s.cams[i].port.link = .down ∧ s.cams[i].port.linkPower = true then
        (s.setCarrier i true).onCam i fun c => { c with port := c.port.beginSweep s.clock }
      else s.setCarrier i true)) := by
  show execCarrierPresent i s = _
  rw [execCarrierPresent, if_pos hp, event_occurs _ hp rfl]

/-- Settles O11, by the two cases of R7: a port in DOWN with link power, and every other. -/
theorem carrierPresentBeginsSweep : Obligations.CarrierPresentBeginsSweep := by
  intro s i hp
  refine ⟨fun hl hw => ?_, fun hn => ?_⟩
  · rw [exec_carrierPresent hp, if_pos ⟨hl, hw⟩, setCarrier_eq, setCam_onCam]
    rfl
  · have : ¬(s.cams[i].port.link = .down ∧ s.cams[i].port.linkPower = true) := by
      rintro ⟨hl, hw⟩
      rcases hn with hn | hn
      · exact hn hl
      · rw [hn] at hw; cases hw
    rw [exec_carrierPresent hp, if_neg this]
    rfl

/-- Settles O13, by the five link states. -/
theorem carrierLostEntersDown : Obligations.CarrierLostEntersDown := by
  intro s i hp
  have run : exec (.carrierLost i) s = execCarrierLost i s := rfl
  have lost : ((s.setCarrier i false).flushCam i (((s.setCarrier i false).cams[i]).loseCarrier s.clock)) =
      s.flushCam i (Cam.emptied { s.cams[i] with port := { s.cams[i].port.atRest with
        carrier := false, link := .down, record := { s.cams[i].port.record with attempts := 0 } } } s.clock true) := by
    rw [setCarrier_eq, setCam_flushCam, State.setCam_same]
    rfl
  refine ⟨fun hl => ?_, fun hl => ?_⟩
  · rw [run, execCarrierLost, if_pos hp, event_occurs _ hp rfl]
    rcases hl with hl | hl | hl <;> (dsimp only; rw [hl]; exact congrArg (Host.Outcome.next ∘ State.settle) lost)
  · rw [run, execCarrierLost, if_pos hp, event_occurs _ hp rfl]
    show _ = Host.Outcome.next (s.setCarrier i false).settle
    rcases hl with hl | hl <;> (dsimp only; rw [hl])

/-! ### Training words and the word timer (R10 to R12) -/

section
variable (p : Port) (w : BitVec 10) (now : Nat)

/-- Before the sixteenth word of a phase the word is kept (R10). -/
theorem takeWord_early (h : p.words.length < 15) :
    p.takeWord w now = { p with words := p.words ++ [w], wordTimer := some (now + 300 * 200) } := by
  have : (p.words ++ [w]).length < 16 := by simp; omega
  unfold Port.takeWord
  exact if_pos this

/-- The sixteenth word of a phase judges it (R10). -/
theorem takeWord_last (h : p.words.length = 15) :
    p.takeWord w now = Port.phaseJudged
      { p with words := p.words ++ [w], wordTimer := some (now + 300 * 200) } (p.words ++ [w]) now := by
  have : ¬(p.words ++ [w]).length < 16 := by simp [h]
  unfold Port.takeWord
  exact if_neg this

/-- Before phase 31 a judged phase enters the pass map, and the next one is tested (R10). -/
theorem phaseJudged_next (words : List (BitVec 10)) (h : p.phase < 31) :
    p.phaseJudged words now = { p with
      words := [], phase := p.phase + 1
      record := { p.record with
        passMap := p.record.passMap.set p.phase (judgePhase p.config.items words) (Nat.lt_trans h (by decide)) } } := by
  have h32 : p.phase < 32 := by omega
  unfold Port.phaseJudged
  simp only [dif_pos h32, if_pos h]

/-- With phase 31 the attempt ends (R11). -/
theorem phaseJudged_end (words : List (BitVec 10)) (h : p.phase = 31) :
    p.phaseJudged words now = Port.endAttempt { p with
      words := []
      record := { p.record with passMap := p.record.passMap.set 31 (judgePhase p.config.items words) } } now := by
  unfold Port.phaseJudged
  simp [h]

/-- An attempt whose window is wide enough locks the port at its middle (R11). -/
theorem endAttempt_locks (h : p.config.items.minWindow ≤ p.record.judged.windowWidth) :
    p.endAttempt now = { p with
      link := .locked
      record := { p.record.judged with
        chosenPhase := some (p.record.judged.windowStart.getD 0 + (p.record.judged.windowWidth - 1) / 2) }
      phase := p.record.judged.windowStart.getD 0 + (p.record.judged.windowWidth - 1) / 2
      words := [], wordTimer := none, frameOpen := false, expectedLine := 0 } := by
  unfold Port.endAttempt
  exact if_pos h

/-- An attempt whose window is too narrow fails (R11, R12). -/
theorem endAttempt_fails (hl : p.link = .training) (h : p.record.judged.windowWidth < p.config.items.minWindow) :
    p.endAttempt now = p.attemptFailed p.record.judged now := by
  unfold Port.endAttempt
  exact (if_neg (by omega)).trans (failAttempt_eq_attemptFailed p now _ hl)

theorem timeOut_eq_attemptFailed (hl : p.link = .training) : p.timeOut now = p.attemptFailed p.record.judged now :=
  failAttempt_eq_attemptFailed p now _ hl

end

/-- A training word in TRAINING is taken by the port, and the event ends. -/
theorem exec_trainingWord {s : State} (hp : s.powered = true) {i : Fin 4} (hl : s.cams[i].port.link = .training)
    (w : BitVec 10) :
    exec (.trainingWord i w) s =
      .next (State.settle (s.setCam i { s.cams[i] with port := (s.cams[i]).port.takeWord w s.clock })) := by
  show execTrainingWord i w s = _
  rw [execTrainingWord, event_occurs _ hp (by rw [hl]; rfl)]
  rfl

/-- Settles O14, by the number of words taken and the phase under test. -/
theorem trainingWordTaken : Obligations.TrainingWordTaken := by
  intro s i w hp
  refine ⟨fun hl => ?_, fun hl hw => ?_, fun h hl hw => ?_, fun h hl hw => ⟨fun hm => ?_, fun hm => ?_⟩⟩
  · show execTrainingWord i w s = _
    exact event_idle s _ (beq_false_of_ne hl)
  · rw [exec_trainingWord hp hl, takeWord_early _ _ _ hw]
  · rw [exec_trainingWord hp hl, (takeWord_last _ _ _ hw).trans (phaseJudged_next _ _ _ (by exact h))]
  · rw [exec_trainingWord hp hl, (takeWord_last _ _ _ hw).trans
      ((phaseJudged_end _ _ _ (by exact h)).trans (endAttempt_locks _ _ (by exact hm)))]
    rfl
  · rw [exec_trainingWord hp hl, (takeWord_last _ _ _ hw).trans
      ((phaseJudged_end _ _ _ (by exact h)).trans (endAttempt_fails _ _ (by exact hl) (by exact hm)))]
    rfl

/-- Settles O15, timer by timer: an expiry acts at its instant, and a stopped timer is no event. -/
theorem cameraTimersExpire : Obligations.CameraTimersExpire := by
  have due (s : State) (d : Nat) : s.atInstant (some d) = { s with clock := max s.clock d } := rfl
  refine ⟨fun s i hp => ⟨fun d hl ht => ?_, fun hn => ?_⟩, fun s i hp => ⟨fun d ht => ?_, fun d ht => ?_, fun ht => ?_,
    fun ht => ?_⟩⟩
  · show execWordTimerExpiry i s = _
    rw [execWordTimerExpiry, event_occurs _ hp (by rw [hl, ht]; rfl)]
    dsimp only
    rw [ht, due, onCam_eq, timeOut_eq_attemptFailed _ _ (by exact hl)]
    rfl
  · show execWordTimerExpiry i s = _
    refine event_idle s _ ?_
    rcases hn with hn | hn
    · rw [beq_false_of_ne hn, Bool.false_and]
    · rw [hn, Option.isSome_none, Bool.and_false]
  · show execStaleDeadlineExpiry i s = _
    rw [execStaleDeadlineExpiry, event_occurs _ hp (by rw [ht]; rfl)]
    dsimp only
    rw [ht, due]
    rfl
  · show execLostDeadlineExpiry i s = _
    rw [execLostDeadlineExpiry, event_occurs _ hp (by rw [ht]; rfl)]
    dsimp only
    rw [ht, due]
    rfl
  · show execStaleDeadlineExpiry i s = _
    exact event_idle s _ (by rw [ht]; rfl)
  · show execLostDeadlineExpiry i s = _
    exact event_idle s _ (by rw [ht]; rfl)

end Sys2Proof.Machine
end

section
/-! The judgement of a phase by its sixteen words (R10), and the window of a pass map (R11). -/

namespace Sys2Proof.Machine

/-! ### The cycle of training words (R10) -/

section
variable {p : PortItems}

theorem trainingWord_wordSlot {w k : Nat} (h : wordSlot p w = some k) :
    k < 4 ∧ PortItems.trainingWord p k = w := by
  unfold wordSlot at h
  split at h
  · obtain rfl := Option.some.inj h; exact ⟨by decide, Eq.symm ‹_›⟩
  split at h
  · obtain rfl := Option.some.inj h; exact ⟨by decide, Eq.symm ‹_›⟩
  split at h
  · obtain rfl := Option.some.inj h; exact ⟨by decide, Eq.symm ‹_›⟩
  split at h
  · obtain rfl := Option.some.inj h; exact ⟨by decide, Eq.symm ‹_›⟩
  · cases h

/-- With four different training words the slot of a word is the one it equals. -/
theorem wordSlot_trainingWord (hd : p.wordsDiffer = true) {k : Nat} (hk : k < 4) :
    wordSlot p (PortItems.trainingWord p k) = some k := by
  simp only [PortItems.wordsDiffer, Bool.and_eq_true, bne_iff_ne] at hd
  obtain ⟨⟨⟨⟨⟨h01, h02⟩, h03⟩, h12⟩, h13⟩, h23⟩ := hd
  interval_cases k <;>
    simp [wordSlot, PortItems.trainingWord, h01.symm, h02.symm, h03.symm, h12.symm, h13.symm, h23.symm]

/-- Words run through the cycle from slot `k` exactly when each equals the training word of its place (R10). -/
theorem followsCycle_iff (words : List (BitVec 10)) (k : Nat) :
    followsCycle p k words = true ↔
      ∀ (i : Nat) (h : i < words.length), words[i].toNat = PortItems.trainingWord p ((k + i) % 4) := by
  induction words generalizing k with
  | nil => simp [followsCycle]
  | cons w rest ih =>
    simp only [followsCycle, Bool.and_eq_true, decide_eq_true_eq, ih]
    constructor
    · rintro ⟨hw, hr⟩ i hi
      cases i with
      | zero => exact hw
      | succ i =>
        have := hr i (by simpa using hi)
        rwa [show k + (i + 1) = k + 1 + i by omega]
    · intro h
      refine ⟨h 0 (by simp), fun i hi => ?_⟩
      have := h (i + 1) (by simpa using hi)
      rwa [show k + 1 + i = k + (i + 1) by omega]

/-- A judged phase passed or failed. -/
theorem judgePhase_pass_or_fail (words : List (BitVec 10)) :
    judgePhase p words = .pass ∨ judgePhase p words = .fail := by
  unfold judgePhase
  split
  · exact .inr rfl
  · split
    · split
      · exact .inl rfl
      · exact .inr rfl
    · exact .inr rfl

/-- A phase passes exactly when its words run through the cycle from one of the four slots (R10). -/
theorem judgePhase_pass_iff (hd : p.wordsDiffer = true) {words : List (BitVec 10)} (hn : words ≠ []) :
    judgePhase p words = .pass ↔ ∃ k < 4, followsCycle p k words = true := by
  obtain ⟨first, rest, rfl⟩ := List.exists_cons_of_ne_nil hn
  constructor
  · intro h
    unfold judgePhase at h
    split at h
    · cases h
    · split at h
      · rename_i k hk
        split at h
        · exact ⟨k, (trainingWord_wordSlot hk).1, ‹_›⟩
        · cases h
      · cases h
  · rintro ⟨k, hk, hf⟩
    have hw : first.toNat = PortItems.trainingWord p k := by
      have := (followsCycle_iff _ k).1 hf 0 (by simp)
      simpa [Nat.mod_eq_of_lt hk] using this
    simp only [judgePhase, hw, wordSlot_trainingWord hd hk, hf, if_true]

end

/-! ### The longest run of a pass map (R11) -/

/-- The places from `a` to `a + w - 1` all pass and lie below `n`. -/
def passRun (pass : Nat → Prop) (n a w : Nat) : Prop := a + w ≤ n ∧ ∀ i, a ≤ i → i < a + w → pass i

/-- `best` is the longest run of the first `n` places, the lowest start first, with 0 for none; `run` is the length of the
run that ends at place `n`. -/
structure ScannedTo (pass : Nat → Prop) (n run : Nat) (best : Nat × Nat) : Prop where
  run_le : run ≤ n
  run_passes : ∀ i, n - run ≤ i → i < n → pass i
  run_longest : ∀ b v, b + v = n → passRun pass n b v → v ≤ run
  best_run : passRun pass n best.1 best.2
  best_longest : ∀ b v, passRun pass n b v → v ≤ best.2
  best_lowest : ∀ b, passRun pass n b best.2 → best.1 ≤ b

/-- A run of `n + 1` places ends at the last place, or is a run of the first `n`. -/
theorem passRun_succ {pass : Nat → Prop} {n b v : Nat} (h : passRun pass (n + 1) b v) :
    b + v = n + 1 ∨ passRun pass n b v := by
  obtain ⟨hb, hp⟩ := h
  by_cases e : b + v = n + 1
  · exact .inl e
  · exact .inr ⟨by omega, hp⟩

theorem passRun_mono {pass : Nat → Prop} {n m b v : Nat} (h : passRun pass n b v) (hm : n ≤ m) : passRun pass m b v :=
  ⟨h.1.trans hm, h.2⟩

section
variable {pass : Nat → Prop} {n run : Nat} {best : Nat × Nat} (h : ScannedTo pass n run best)
include h

/-- A run that ends at a passing place `n` is at most one longer than the run before it. -/
theorem ScannedTo.run_succ {b v : Nat} (hb : b + v = n + 1) (hr : passRun pass (n + 1) b v) : v ≤ run + 1 := by
  cases v with
  | zero => omega
  | succ v =>
    have := h.run_longest b v (by omega) ⟨by omega, fun i h1 h2 => hr.2 i h1 (by omega)⟩
    omega

theorem ScannedTo.interrupt (hp : ¬pass n) : ScannedTo pass (n + 1) 0 best := by
  have within {b v : Nat} (hr : passRun pass (n + 1) b v) (hv : 0 < v) : passRun pass n b v := by
    rcases passRun_succ hr with e | e
    · exact absurd (hr.2 n (by omega) (by omega)) hp
    · exact e
  refine ⟨by omega, by omega, fun b v hb hr => ?_, passRun_mono h.best_run (by omega), fun b v hr => ?_, fun b hr => ?_⟩
  · by_contra hv
    have := (within hr (by omega)).1
    omega
  · by_cases hv : v = 0
    · omega
    · exact h.best_longest b v (within hr (by omega))
  · by_cases hv : best.2 = 0
    · have zero : passRun pass n 0 best.2 := ⟨by omega, by omega⟩
      have := h.best_lowest 0 zero
      omega
    · exact h.best_lowest b (within hr (by omega))

theorem ScannedTo.extend (hp : pass n) :
    ScannedTo pass (n + 1) (run + 1) (if run + 1 > best.2 then (n - run, run + 1) else best) := by
  have le := h.run_le
  have ends : ∀ i, n + 1 - (run + 1) ≤ i → i < n + 1 → pass i := by
    intro i h1 h2
    by_cases e : i = n
    · exact e ▸ hp
    · exact h.run_passes i (by omega) (by omega)
  have longest : ∀ b v, b + v = n + 1 → passRun pass (n + 1) b v → v ≤ run + 1 := fun b v hb hr => h.run_succ hb hr
  split
  · rename_i hl
    refine ⟨by omega, ends, longest, ⟨by dsimp only; omega, fun i h1 h2 => ends i ?_ ?_⟩, fun b v hr => ?_, fun b hr => ?_⟩
    · dsimp only at h1; omega
    · dsimp only at h2; omega
    · rcases passRun_succ hr with e | e
      · exact longest b v e hr
      · have := h.best_longest b v e
        dsimp only; omega
    · rcases passRun_succ hr with e | e
      · dsimp only at e ⊢; omega
      · have := h.best_longest b _ e
        dsimp only at this; omega
  · rename_i hl
    refine ⟨by omega, ends, longest, passRun_mono h.best_run (by omega), fun b v hr => ?_, fun b hr => ?_⟩
    · rcases passRun_succ hr with e | e
      · have := longest b v e hr
        omega
      · exact h.best_longest b v e
    · rcases passRun_succ hr with e | e
      · have := longest b _ e hr
        have := h.best_run.1
        omega
      · exact h.best_lowest b e

end

/-- The scan of a list of entries continues the scan of the places before it. -/
theorem longestRun_scans {pass : Nat → Prop} (l : List PhaseResult) {n run : Nat} {best : Nat × Nat}
    (hl : ∀ (i : Nat) (h : i < l.length), pass (n + i) ↔ l[i] = .pass) (h : ScannedTo pass n run best) :
    ∃ r, ScannedTo pass (n + l.length) r (longestRun l n run best) := by
  induction l generalizing n run best with
  | nil => exact ⟨run, h⟩
  | cons x rest ih =>
    have hx : pass n ↔ x = .pass := hl 0 (by simp)
    have later : ∀ (i : Nat) (h : i < rest.length), pass (n + 1 + i) ↔ rest[i] = .pass := by
      intro i hi
      rw [show n + 1 + i = n + (i + 1) by omega]
      exact hl (i + 1) (by simpa using hi)
    rw [List.length_cons, show n + (rest.length + 1) = n + 1 + rest.length by omega]
    unfold longestRun
    split
    · exact ih later (h.extend (hx.2 ‹_›))
    · exact ih later (h.interrupt fun hp => ‹¬x = .pass› (hx.1 hp))

/-- The window of a pass map is its longest run, the lowest start first (R11). -/
theorem windowOf_scanned (map : Vector PhaseResult 32) :
    ∃ run best, ScannedTo (fun i => ∃ h : i < 32, map[i] = .pass) 32 run best ∧
      windowOf map = if best.2 = 0 then (none, 0) else (some best.1, best.2) := by
  have start : ScannedTo (fun i => ∃ h : i < 32, map[i] = .pass) 0 0 (0, 0) :=
    ⟨by omega, by omega, fun b v hb hr => by omega, ⟨by simp, by simp⟩, fun b v hr => by have := hr.1; simp; omega,
      fun b hr => by simp⟩
  obtain ⟨run, hr⟩ := longestRun_scans map.toList (by
    intro i hi
    have : i < 32 := by simpa using hi
    simp [this]) start
  exact ⟨run, _, by simpa using hr, rfl⟩

/-- Settles O16: the cycle of words decides a phase, and the scan of the pass map finds its window. -/
theorem trainingJudgedByItsWords : Obligations.TrainingJudgedByItsWords := by
  refine ⟨fun p words hd hn => ⟨judgePhase_pass_or_fail words, ?_⟩, fun map => ?_⟩
  · have : words ≠ [] := by
      rintro rfl
      cases hn
    rw [judgePhase_pass_iff hd this]
    simp only [followsCycle_iff]
    rfl
  · obtain ⟨run, best, hs, hw⟩ := windowOf_scanned map
    refine ⟨fun hf => ?_, fun ⟨i, hi, hp⟩ => ⟨best.1, best.2, ?_, ?_, ?_, fun b v hr => ?_⟩⟩
    · have : best.2 = 0 := by
        by_contra h0
        obtain ⟨h1, h2⟩ := hs.best_run
        obtain ⟨hi, hp⟩ := h2 best.1 (by omega) (by omega)
        exact hf _ hi hp
      rw [hw, if_pos this]
    all_goals have one : 1 ≤ best.2 := hs.best_longest i 1 ⟨by omega, fun j h1 h2 => by
      obtain rfl : j = i := by omega
      exact ⟨hi, hp⟩⟩
    · rw [hw, if_neg (by omega)]
    · exact one
    · obtain ⟨h1, h2⟩ := hs.best_run
      exact ⟨h1, fun j hj ha hb => (h2 j ha hb).2⟩
    · have run : passRun (fun i => ∃ h : i < 32, map[i] = .pass) 32 b v :=
        ⟨hr.1, fun j h1 h2 => ⟨by have := hr.1; omega, hr.2 j _ h1 h2⟩⟩
      exact ⟨hs.best_longest b v run, fun hv => hs.best_lowest b (hv ▸ run)⟩

end Sys2Proof.Machine
end

section
/-! Frames on a camera link and in its ring: FRAME_START, LINE and FRAME_END (R13 to R17, R26 to R28, R38 to R41), and the newest
accepted frame (R15, R19). -/

namespace Sys2Proof.Machine

/-! ### The slots of a ring, one by one -/

/-- Of three tests of which at most one holds, two that hold are the same. -/
theorem eq_of_sum_le_one {b : Fin 3 → Bool} (h : (b 0).toNat + (b 1).toNat + (b 2).toNat ≤ 1) {j k : Fin 3}
    (hj : b j = true) (hk : b k = true) : j = k := by
  fin_cases j <;> fin_cases k <;> simp_all <;> omega

section
variable {v : Vector Slot 3} (h : slotsSafe v.toList)
include h

/-- At most one slot is FILLING (R24). -/
theorem filling_unique {j k : Fin 3} (hj : v[j].isFilling = true) (hk : v[k].isFilling = true) : j = k := by
  rw [slots_toList, slotsSafe_iff] at h
  exact eq_of_sum_le_one (b := fun j => v[j].isFilling) h.1 hj hk

/-- At most one slot is READY (R24). -/
theorem ready_unique {j k : Fin 3} (hj : v[j].isReady = true) (hk : v[k].isReady = true) : j = k := by
  rw [slots_toList, slotsSafe_iff] at h
  exact eq_of_sum_le_one (b := fun j => v[j].isReady) h.2.1 hj hk

/-- At most one slot is SHOWING (R24). -/
theorem showing_unique {j k : Fin 3} (hj : v[j].isShowing = true) (hk : v[k].isShowing = true) : j = k := by
  rw [slots_toList, slotsSafe_iff] at h
  exact eq_of_sum_le_one (b := fun j => v[j].isShowing) h.2.2 hj hk

end

/-- The lowest-numbered slot that satisfies a test. -/
theorem lowest_eq_some {r : Ring} {test : Slot → Bool} {k : Fin 3} (h : r.lowest test = some k) :
    test r.slots[k] = true ∧ ∀ j : Fin 3, j < k → test r.slots[j] = false := by
  unfold Ring.lowest at h
  split at h
  · obtain rfl := Option.some.inj h
    exact ⟨‹_›, fun j hj => absurd hj (by omega)⟩
  split at h
  · obtain rfl := Option.some.inj h
    refine ⟨‹_›, fun j hj => ?_⟩
    obtain rfl : j = 0 := by omega
    simpa using ‹¬test r.slots[0] = true›
  split at h
  · obtain rfl := Option.some.inj h
    refine ⟨‹_›, fun j hj => ?_⟩
    obtain rfl | rfl : j = 0 ∨ j = 1 := by omega
    · simpa using ‹¬test r.slots[0] = true›
    · simpa using ‹¬test r.slots[1] = true›
  · cases h

theorem isFree_iff (x : Slot) : x.isFree = true ↔ x = .free := by
  cases x <;> simp [Slot.isFree]

/-! ### The newest accepted frame (R15, R19) -/

section
variable {r : Ring}

theorem readyFrame_mem {f : Frame} (h : r.readyFrame = some f) : ∃ j : Fin 3, r.slots[j] = .ready f := by
  unfold Ring.readyFrame at h
  obtain ⟨x, hx, hf⟩ := List.exists_of_findSome?_eq_some h
  obtain ⟨j, hj, rfl⟩ := List.mem_iff_getElem.1 hx
  refine ⟨⟨j, by simpa using hj⟩, ?_⟩
  split at hf
  · obtain rfl := Option.some.inj hf
    simpa using ‹_›
  · cases hf

theorem showingFrame_mem {f : Frame} (h : r.showingFrame = some f) : ∃ j : Fin 3, r.slots[j] = .showing f := by
  unfold Ring.showingFrame at h
  obtain ⟨x, hx, hf⟩ := List.exists_of_findSome?_eq_some h
  obtain ⟨j, hj, rfl⟩ := List.mem_iff_getElem.1 hx
  refine ⟨⟨j, by simpa using hj⟩, ?_⟩
  split at hf
  · obtain rfl := Option.some.inj hf
    simpa using ‹_›
  · cases hf

theorem readyFrame_none (h : r.readyFrame = none) (j : Fin 3) (f : Frame) : r.slots[j] ≠ .ready f := by
  intro hj
  unfold Ring.readyFrame at h
  have := List.findSome?_eq_none_iff.1 h r.slots[j] (by simp)
  simp only [hj] at this
  cases this

theorem showingFrame_none (h : r.showingFrame = none) (j : Fin 3) (f : Frame) : r.slots[j] ≠ .showing f := by
  intro hj
  unfold Ring.showingFrame at h
  have := List.findSome?_eq_none_iff.1 h r.slots[j] (by simp)
  simp only [hj] at this
  cases this

/-- The frame of the READY slot (R24, R27). -/
theorem readyFrame_eq_some (hs : slotsSafe r.slots.toList) {j : Fin 3} {f : Frame} (hj : r.slots[j] = .ready f) :
    r.readyFrame = some f := by
  cases h : r.readyFrame with
  | none => exact absurd hj (readyFrame_none h j f)
  | some g =>
    obtain ⟨k, hk⟩ := readyFrame_mem h
    obtain rfl := ready_unique hs (j := j) (k := k) (by rw [hj]; rfl) (by rw [hk]; rfl)
    rw [hj] at hk
    rw [Slot.ready.inj hk]

/-- The frame of the SHOWING slot (R24, R29). -/
theorem showingFrame_eq_some (hs : slotsSafe r.slots.toList) {j : Fin 3} {f : Frame} (hj : r.slots[j] = .showing f) :
    r.showingFrame = some f := by
  cases h : r.showingFrame with
  | none => exact absurd hj (showingFrame_none h j f)
  | some g =>
    obtain ⟨k, hk⟩ := showingFrame_mem h
    obtain rfl := showing_unique hs (j := j) (k := k) (by rw [hj]; rfl) (by rw [hk]; rfl)
    rw [hj] at hk
    rw [Slot.showing.inj hk]

theorem readyFrame_eq_none (h : ∀ (j : Fin 3) (f : Frame), r.slots[j] ≠ .ready f) : r.readyFrame = none := by
  cases hr : r.readyFrame with
  | none => rfl
  | some g =>
    obtain ⟨j, hj⟩ := readyFrame_mem hr
    exact absurd hj (h j g)

theorem showingFrame_eq_none (h : ∀ (j : Fin 3) (f : Frame), r.slots[j] ≠ .showing f) : r.showingFrame = none := by
  cases hr : r.showingFrame with
  | none => rfl
  | some g =>
    obtain ⟨j, hj⟩ := showingFrame_mem hr
    exact absurd hj (h j g)

/-- `g` is the newest accepted frame held: that of the READY slot, else that of the SHOWING slot (R15). -/
def Ring.holdsNewest (r : Ring) (g : Frame) : Prop :=
  (∃ j : Fin 3, r.slots[j] = .ready g) ∨
  ((∀ (j : Fin 3) (x : Frame), r.slots[j] ≠ .ready x) ∧ ∃ j : Fin 3, r.slots[j] = .showing g)

theorem newestFrame_of_ready {f : Frame} (h : r.readyFrame = some f) : r.newestFrame = some f := by
  unfold Ring.newestFrame
  rw [h]

theorem newestFrame_of_none (h : r.readyFrame = none) : r.newestFrame = r.showingFrame := by
  unfold Ring.newestFrame
  rw [h]

theorem newestFrame_eq_some_iff (hs : slotsSafe r.slots.toList) (g : Frame) :
    r.newestFrame = some g ↔ r.holdsNewest g := by
  cases h : r.readyFrame with
  | some f =>
    rw [newestFrame_of_ready h]
    obtain ⟨j, hj⟩ := readyFrame_mem h
    constructor
    · intro e
      exact .inl ⟨j, Option.some.inj e ▸ hj⟩
    · rintro (⟨k, hk⟩ | ⟨hn, -⟩)
      · exact h.symm.trans (readyFrame_eq_some hs hk)
      · exact absurd hj (hn j f)
  | none =>
    rw [newestFrame_of_none h]
    constructor
    · intro e
      exact .inr ⟨readyFrame_none h, showingFrame_mem e⟩
    · rintro (⟨k, hk⟩ | ⟨-, k, hk⟩)
      · exact absurd hk (readyFrame_none h k g)
      · exact showingFrame_eq_some hs hk

end

/-! ### FRAME_START (R13, R26, R38) -/

theorem measure_first {r : Ring} (p : PortItems) (now : Nat) (h : r.prevStart = none) :
    r.measure p now = { r with prevStart := some now } := by
  unfold Ring.measure
  rw [h]

theorem measure_next {r : Ring} (p : PortItems) (now : Nat) {before : Nat} (h : r.prevStart = some before) :
    r.measure p now = { r with
      intervals :=
        if 10 * p.lostLimit < (now - before + 5) / 10 then []
        else (if r.intervals.length < 8 then r.intervals else r.intervals.drop 1) ++ [(now - before + 5) / 10]
      prevStart := some now } := by
  unfold Ring.measure
  rw [h]
  rfl

/-- A FRAME_START in LOCKED opens the lowest-numbered slot that is FREE after the truncation (R13, R26). -/
theorem startFrame_eq {c : Cam} (number : Byte) (now : Nat) {k : Fin 3}
    (hk : c.ring.reject.lowest Slot.isFree = some k) :
    c.startFrame number now = some { c with
      ring := { c.ring.measure c.port.config.items now with
        slots := c.ring.reject.slots.set k (.filling ⟨⟨none, number, none, ⟨0, 0, 0, []⟩⟩, []⟩) }
      port := { c.port with
        counters := { c.port.counters with
          truncated := if c.port.frameOpen then min (c.port.counters.truncated + 1) 4294967295
            else c.port.counters.truncated }
        frameOpen := true, expectedLine := 0 } } := by
  have slots : (c.ring.reject.measure c.port.config.items now).slots = c.ring.reject.slots := measure_slots _ _ _
  have low : (c.ring.reject.measure c.port.config.items now).lowest Slot.isFree = some k := by
    simp only [Ring.lowest, slots]
    exact hk
  unfold Cam.startFrame Ring.openFrame
  simp only [low, Option.map_some, slots]
  rw [measure_reject]
  cases c.port.frameOpen <;> rfl

/-- Settles O17: after the truncation a FREE slot exists (R24), and the lowest one is opened. -/
theorem frameStartOpensASlot : Obligations.FrameStartOpensASlot := by
  intro s i number hp
  refine ⟨fun hl => ?_, fun hl hs => ?_⟩
  · show execFrameStart i number s = _
    rw [execFrameStart, if_neg fun h => hl h.2]
  · obtain ⟨t, ht, -⟩ := openFrame_reject number hs
    obtain ⟨k, hk, -⟩ := openFrame_some ht
    obtain ⟨free, lower⟩ := lowest_eq_some hk
    refine ⟨k, (isFree_iff _).1 free, fun j hj hf => ?_, ?_⟩
    · have free : (s.cams[i]).ring.reject.slots[j].isFree = true := (isFree_iff _).2 hf
      rw [lower j hj] at free
      cases free
    · show execFrameStart i number s = _
      rw [execFrameStart, if_pos ⟨hp, hl⟩, startFrame_eq number _ hk]
      cases hb : (s.cams[i]).ring.prevStart with
      | none => rw [measure_first _ _ hb]; rfl
      | some before => rw [measure_next _ _ hb]; rfl

/-! ### LINE (R14) -/

theorem lineDamaged_iff (width : Nat) (index : BitVec 16) (pixels : List Pixel) (check : BitVec 16) :
    lineDamaged width index pixels check = true ↔
      crc16 ([(index >>> 8).truncate 8, index.truncate 8] ++ pixels.flatMap fun q => [q.r, q.g, q.b]) ≠ check ∨
      pixels.length ≠ width := by
  simp only [lineDamaged, Bool.or_eq_true, decide_eq_true_eq]
  rfl

section
variable (c : Cam) (index : BitVec 16) (pixels : List Pixel) (check : BitVec 16)

theorem repairLines_config (first count : Nat) : (c.repairLines first count).port.config = c.port.config := by
  obtain ⟨n, hn⟩ := repairLines_port c first count
  rw [hn]

/-- A line whose index is not expected counts as a line error (R14). -/
theorem takeLine_error (h : c.port.config.items.height ≤ index.toNat ∨ index.toNat < c.port.expectedLine) :
    c.takeLine index pixels check = { c with port := { c.port with counters := { c.port.counters with
      lineErrors := min (c.port.counters.lineErrors + 1) 4294967295 } } } := by
  unfold Cam.takeLine
  exact if_pos h

/-- An expected line comes after the repair of those before it (R14). -/
theorem takeLine_expected (he : c.port.expectedLine ≤ index.toNat) (hn : index.toNat < c.port.config.items.height) :
    c.takeLine index pixels check =
      (let reached := c.repairLines c.port.expectedLine (index.toNat - c.port.expectedLine)
       let d := if lineDamaged c.port.config.items.width index pixels check then reached.repairLine index.toNat
         else reached.writeLine pixels
       { d with port := { d.port with expectedLine := index.toNat + 1 } }) := by
  unfold Cam.takeLine
  dsimp only
  rw [if_neg (by omega), repairLines_config]

end

/-- Settles O18, by the index and the damage of the line. -/
theorem linePlacedByItsIndex : Obligations.LinePlacedByItsIndex := by
  intro s i index check pixels hp
  have run : exec (.line i index pixels check) s = execLine i index pixels check s := rfl
  have acts (hl : s.cams[i].port.link = .locked) (ho : s.cams[i].port.frameOpen = true) :
      execLine i index pixels check s =
        .next (State.settle (s.setCam i ((s.cams[i]).takeLine index pixels check))) := by
    rw [execLine, event_occurs _ hp (by rw [hl, ho]; rfl)]
    rfl
  refine ⟨fun hn => ?_, fun hl ho => ⟨fun he => ?_, fun he hn hd => ?_, fun he hn hd => ?_⟩⟩
  · rw [run]
    refine event_idle s _ ?_
    rcases hn with hn | hn
    · rw [beq_false_of_ne hn, Bool.false_and]
    · rw [hn, Bool.and_false]
  · rw [run, acts hl ho, takeLine_error _ _ _ _ he]
  · rw [run, acts hl ho, takeLine_expected _ _ _ _ he hn, (lineDamaged_iff _ _ _ _).2 hd]
    rfl
  · have good : lineDamaged (s.cams[i]).port.config.items.width index pixels check = false := by
      by_contra h
      exact hd ((lineDamaged_iff _ _ _ _).1 (by simpa using h))
    rw [run, acts hl ho, takeLine_expected _ _ _ _ he hn, good]
    rfl

/-! ### The repair of a line (R15, R16) -/

/-- With one slot FILLING, a change of the FILLING frame changes that slot alone (R24). -/
theorem onFilling_slots {v : Vector Slot 3} (hs : slotsSafe v.toList) {k : Fin 3} {f : Frame} (hk : v[k] = .filling f)
    (g : Frame → Frame) : mapTable (Slot.onFilling g) v = v.set k (.filling (g f)) := by
  apply Vector.ext
  intro j hj
  rw [mapTable_get, Vector.getElem_set]
  split
  · rename_i e
    have : v[j] = .filling f := by simpa [e] using hk
    rw [this]
    rfl
  · rename_i e
    cases hx : v[j] with
    | filling f' =>
      have hf : v[(⟨j, hj⟩ : Fin 3)].isFilling = true := by
        show v[j].isFilling = true
        rw [hx]
        rfl
      have := filling_unique hs hf (by rw [hk]; rfl : v[k].isFilling = true)
      exact absurd (congrArg Fin.val this).symm e
    | _ => rfl

/-- The substitute is row `i` of the newest frame, when that frame has one (R15). -/
theorem substitute_newest {newest : Option Frame} {g : Frame} {x : List Pixel} {i : Nat} (hg : newest = some g)
    (hx : g.rows[i]? = some x) (f : Frame) (width : Nat) : substitute newest f width i = x := by
  simp [substitute, hg, hx]

/-- Without such a row the substitute is the row above (R15). -/
theorem substitute_above {newest : Option Frame} {i : Nat} (hg : ∀ g, newest = some g → g.rows[i]? = none)
    {f : Frame} {x : List Pixel} (hi : 0 < i) (hx : f.rows[i - 1]? = some x) (width : Nat) :
    substitute newest f width i = x := by
  have none : newest.bind (fun f => f.rows[i]?) = none := by
    cases newest with
    | none => rfl
    | some g => exact hg g rfl
  have : ¬i = 0 := by omega
  simp [substitute, none, this, hx]

/-- For line 0 without such a row the substitute is mid-grey (R15). -/
theorem substitute_grey {newest : Option Frame} (hg : ∀ g, newest = some g → g.rows[0]? = none) (f : Frame)
    (width : Nat) : substitute newest f width 0 = List.replicate width (rgb 128 128 128) := by
  have none : newest.bind (fun f => f.rows[0]?) = none := by
    cases newest with
    | none => rfl
    | some g => exact hg g rfl
  simp [substitute, none]

/-- Repairs go through the lines one by one in increasing order (R14, R17). -/
theorem repairLines_eq_foldl (c : Cam) (first count : Nat) :
    c.repairLines first count = (List.range count).foldl (fun d j => d.repairLine (first + j)) c := by
  induction count generalizing c first with
  | zero => rfl
  | succ count ih =>
    rw [List.range_succ_eq_map, List.foldl_cons, List.foldl_map]
    show (c.repairLine first).repairLines (first + 1) count = _
    rw [ih]
    have : ∀ j, first + 1 + j = first + j.succ := fun j => by omega
    simp only [this, Nat.add_zero]

/-- Settles O19: the repair acts on the one FILLING slot, with the substitute of R15. -/
theorem repairUsesTheNewestFrame : Obligations.RepairUsesTheNewestFrame := by
  refine ⟨repairLines_eq_foldl, fun c i k f hs hk => ?_⟩
  have newest (g : Frame) : c.ring.newestFrame = some g ↔ c.ring.holdsNewest g := newestFrame_eq_some_iff hs g
  refine ⟨substitute c.ring.newestFrame f c.port.config.items.width i, fun g x hg hx => ?_, fun x hg hi hx => ?_,
    fun hg hi => ?_, ?_⟩
  · exact substitute_newest ((newest g).2 hg) hx _ _
  · exact substitute_above (fun g h => hg g ((newest g).1 h)) hi hx _
  · subst hi
    exact substitute_grey (fun g h => hg g ((newest g).1 h)) _ _
  · unfold Cam.repairLine Ring.mapSlots
    rw [onFilling_slots hs hk]
    rfl

/-! ### FRAME_END (R17, R27, R28) -/

/-- A slot at an acceptance (R27): READY becomes FREE, and FILLING becomes READY with its sequence and arrival time. -/
def Slot.accepted (sequence arrival : Nat) : Slot → Slot
  | .ready _ => .free
  | .filling g => .ready { g with record := { g.record with sequence := some sequence, arrival := some arrival } }
  | y => y

theorem accepted_eq (sequence arrival : Nat) :
    (fun x : Slot => x.dropReady.acceptFilling sequence arrival) = Slot.accepted sequence arrival := by
  funext x
  cases x <;> rfl

theorem accepts_iff (p : PortItems) (r : RepairRecord) :
    PortItems.accepts p r = true ↔ r.damaged ≤ p.damageLimit ∧ r.longest ≤ p.runLimit := by
  simp [PortItems.accepts]

section
variable {s : State} {i : Fin 4} {d : Cam} {f : Frame} (hf : d.ring.fillingFrame = some f)
include hf

/-- A frame within the limits is accepted (R17, R27). -/
theorem judgeFrame_accepts
    (hg : f.record.repair.damaged ≤ d.port.config.items.damageLimit ∧
      f.record.repair.longest ≤ d.port.config.items.runLimit) :
    s.judgeFrame i d = s.setCam i (d.acceptFrame s.sig s.clock s.timeBase) := by
  unfold State.judgeFrame
  rw [hf]
  exact if_pos ((accepts_iff _ _).2 hg)

/-- A frame outside the limits is rejected, and the third one in a row retrains the port (R17, R28). -/
theorem judgeFrame_rejects
    (hg : ¬(f.record.repair.damaged ≤ d.port.config.items.damageLimit ∧
      f.record.repair.longest ≤ d.port.config.items.runLimit)) :
    s.judgeFrame i d =
      if 3 ≤ d.port.rejections + 1 then s.flushCam i (d.rejectFrame.retrain s.clock) else s.setCam i d.rejectFrame := by
  unfold State.judgeFrame
  rw [hf]
  exact if_neg (mt (accepts_iff _ _).1 hg)

/-- What an acceptance leaves (R27, R41, R47). -/
theorem acceptFrame_eq (u : SignalUnit) (now timeBase : Nat) :
    d.acceptFrame u now timeBase =
      { port := { d.port with
          frameOpen := false, expectedLine := 0, rejections := 0
          counters := { d.port.counters with
            accepted := min (d.port.counters.accepted + 1) 4294967295
            dropped := if d.ring.readyFrame.isSome then min (d.port.counters.dropped + 1) 4294967295
              else d.port.counters.dropped } }
        ring := { d.ring with
          slots := mapTable (Slot.accepted ((d.ring.acceptCount + 1) % 4294967296) timeBase) d.ring.slots
          acceptCount := (d.ring.acceptCount + 1) % 4294967296
          picture := .fresh
          staleTimer := some (now +
            300 * max 50 (min ((3 * d.ring.estimate d.port.config.items.period + 5) / 10) 500))
          lostTimer := some (now + 300 * d.port.config.items.lostLimit) }
        meter := d.meter.onFrame u d.port.config.items f.rows } := by
  unfold Cam.acceptFrame Ring.accept
  dsimp only
  rw [hf, accepted_eq]
  rfl

end

/-- Settles O20, by the judgement of the completed frame. -/
theorem frameEndJudgesTheFrame : Obligations.FrameEndJudgesTheFrame := by
  intro s i lineCount hp
  have run : exec (.frameEnd i lineCount) s = execFrameEnd i lineCount s := rfl
  have acts (hl : s.cams[i].port.link = .locked) (ho : s.cams[i].port.frameOpen = true) :
      execFrameEnd i lineCount s = .next (State.settle (s.judgeFrame i (s.cams[i]).completeFrame)) := by
    rw [execFrameEnd, event_occurs _ hp (by rw [hl, ho]; rfl)]
  refine ⟨fun hn => ?_, fun f hl ho hf => ?_⟩
  · rw [run]
    refine event_idle s _ ?_
    rcases hn with hn | hn
    · rw [beq_false_of_ne hn, Bool.false_and]
    · rw [hn, Bool.and_false]
  · have hc : (s.cams[i]).completeFrame.port.config = s.cams[i].port.config := repairLines_config _ _ _
    rw [run, acts hl ho]
    change (s.cams[i]).completeFrame.ring.fillingFrame = some f at hf
    refine ⟨fun hg => ?_, fun hg hr => ?_, fun hg hr => ?_⟩
    · rw [judgeFrame_accepts hf (by rw [hc]; exact hg), acceptFrame_eq hf, hc]
      rfl
    · rw [judgeFrame_rejects hf (by rw [hc]; exact hg), if_neg (by exact Nat.not_le.2 hr)]
      rfl
    · rw [judgeFrame_rejects hf (by rw [hc]; exact hg), if_pos (by exact hr)]
      rfl

end Sys2Proof.Machine
end

section
/-! The requests of the cameras (R4 to R6, R8, R19), standby entry (R138) and the hand-off of a signal event (R135, R139). -/

namespace Sys2Proof.Machine

/-! ### Requests answered by their owner (R170) -/

section
variable {s : State} {type : Byte} {g : Header} {lengthOk : Bool} {owner : State → Answer}

/-- A request of the right length ends with what its owner leaves and answers (R170 step 4). -/
theorem request_answered (hp : s.powered = true) (hl : lengthOk = true) {t : State} {code : ResultCode} {data : ReplyData}
    (ho : owner s.frameArrives = ⟨t, code, data⟩) :
    request type g lengthOk owner s = .next (t.answered type g code data) := by
  rw [request_owner hp hl, ho]
  rfl

/-- A request whose owner refuses it leaves the part as the frame's arrival left it. -/
theorem request_refused (hp : s.powered = true) (hl : lengthOk = true) {code : ResultCode}
    (ho : owner s.frameArrives = refuse s.frameArrives code) :
    request type g lengthOk owner s = .next (s.frameArrives.answered type g code .nothing) :=
  request_answered hp hl ho

/-- A request whose owner accepts it leaves the blocks as the owner does. -/
theorem request_accepted (hp : s.powered = true) (hl : lengthOk = true) {t : State} {data : ReplyData}
    (ho : owner s.frameArrives = accept t data) :
    request type g lengthOk owner s = .next (t.answered type g .ok data) :=
  request_answered hp hl ho

theorem lengthIs_eq {n : Nat} (h : g.len = n) : lengthIs g n = true := by
  simp [lengthIs, h]

theorem asIndex_val {n : Nat} (i : Fin n) : asIndex n i.val = some i := by
  simp [asIndex]

theorem asIndex_none {n i : Nat} (h : n ≤ i) : asIndex n i = none := by
  simp [asIndex, h]

theorem onCamera_val (i : Fin 4) (s : State) (f : Fin 4 → Answer) : onCamera i.val s f = f i := by
  rw [onCamera, asIndex_val]

theorem onCamera_above {cam : Nat} (h : 3 < cam) (s : State) (f : Fin 4 → Answer) :
    onCamera cam s f = refuse s .badValue := by
  rw [onCamera, asIndex_none h]

end

/-! ### SET_CAMERA_CONFIG (R4) -/

/-- The model's range tests are those of R3 and R4 step 1. -/
theorem valid_iff_acceptable (p : PortItems) : p.valid = true ↔ PortItems.acceptable p := by
  simp only [PortItems.valid, PortItems.wordsDiffer, PortItems.acceptable, within, Bool.and_eq_true, decide_eq_true_eq,
    bne_iff_ne, List.nodup_cons, List.mem_cons, List.not_mem_nil, or_false, not_or, not_false_eq_true,
    List.nodup_nil, and_true]
  omega

/-- The restricted items are all but the rate window and the lost limit (R3, R4 step 2). -/
theorem sameRestricted_iff_agree (p q : PortItems) : p.sameRestricted q = true ↔ PortItems.restrictedAgree p q := by
  cases p
  cases q
  simp [PortItems.sameRestricted, PortItems.restrictedAgree]

theorem restricts_iff (l : LinkState) : l.restricts = true ↔ l = .training ∨ l = .locked := by
  cases l <;> simp [LinkState.restricts]

section
variable {s : State} {i : Fin 4} {items : PortItems}

/-- Items out of range, or training words alike, are refused first (R4 step 1). -/
theorem answerSetCameraConfig_invalid {cam : Nat} (h : 3 < cam ∨ ¬PortItems.acceptable items) :
    answerSetCameraConfig cam items s = refuse s .badValue := by
  by_cases hc : 3 < cam
  · exact onCamera_above hc _ _
  · obtain ⟨i, rfl⟩ : ∃ i : Fin 4, cam = i.val := ⟨⟨cam, by omega⟩, rfl⟩
    have : items.valid = false := by
      by_contra hv
      exact (h.resolve_left hc) ((valid_iff_acceptable _).1 (by simpa using hv))
    rw [answerSetCameraConfig, onCamera_val, this]
    rfl

/-- A restricted item that would change in TRAINING or LOCKED is refused next (R4 step 2). -/
theorem answerSetCameraConfig_held (ha : PortItems.acceptable items)
    (hl : s.cams[i].port.link = .training ∨ s.cams[i].port.link = .locked)
    (hr : ¬PortItems.restrictedAgree items s.cams[i].port.config.items) :
    answerSetCameraConfig i.val items s = refuse s .wrongState := by
  have same : items.sameRestricted s.cams[i].port.config.items = false := by
    by_contra h
    exact hr ((sameRestricted_iff_agree _ _).1 (by simpa using h))
  rw [answerSetCameraConfig, onCamera_val, (valid_iff_acceptable _).2 ha]
  dsimp only
  rw [(restricts_iff _).2 hl, same]
  rfl

/-- Otherwise every item but *enabled* takes the carried value (R4). -/
theorem answerSetCameraConfig_taken (ha : PortItems.acceptable items)
    (h : ¬((s.cams[i].port.link = .training ∨ s.cams[i].port.link = .locked) ∧
      ¬PortItems.restrictedAgree items s.cams[i].port.config.items)) :
    answerSetCameraConfig i.val items s =
      accept (s.setCam i { s.cams[i] with port := { s.cams[i].port with
        config := { s.cams[i].port.config with items := items } } }) .nothing := by
  have free : (s.cams[i].port.link.restricts && !items.sameRestricted s.cams[i].port.config.items) = false := by
    by_contra hf
    rw [Bool.not_eq_false, Bool.and_eq_true, Bool.not_eq_true', restricts_iff] at hf
    exact h ⟨hf.1, fun hr => by rw [(sameRestricted_iff_agree _ _).2 hr] at hf; cases hf.2⟩
  rw [answerSetCameraConfig, onCamera_val, (valid_iff_acceptable _).2 ha]
  dsimp only
  rw [free]
  rfl

end

/-- Settles O25, by the two tests of R4. -/
theorem cameraConfigTakenWhole : Obligations.CameraConfigTakenWhole := by
  intro s h cam items hp hlen
  refine ⟨fun hb => ?_, fun i hc ha => ⟨fun hh => ?_, fun hh => ?_⟩⟩
  · exact request_refused hp (lengthIs_eq hlen) (answerSetCameraConfig_invalid hb)
  · subst hc
    exact request_refused hp (lengthIs_eq hlen) (answerSetCameraConfig_held ha hh.1 hh.2)
  · subst hc
    exact request_accepted hp (lengthIs_eq hlen) (answerSetCameraConfig_taken ha hh)

/-! ### CAMERA_ENABLE, CAMERA_DISABLE and CAMERA_RETRAIN (R5, R6, R8) -/

section
variable {s : State} {i : Fin 4}

theorem answerCameraEnable_disabled (h : s.cams[i].port.link = .disabled) :
    answerCameraEnable i.val s = accept (s.setCam i ((s.cams[i]).enable s.clock)) .nothing := by
  rw [answerCameraEnable, onCamera_val, if_pos h]
  rfl

theorem answerCameraEnable_enabled (h : s.cams[i].port.link ≠ .disabled) :
    answerCameraEnable i.val s = accept s .nothing := by
  rw [answerCameraEnable, onCamera_val, if_neg h]

theorem answerCameraDisable_disabled (h : s.cams[i].port.link = .disabled) :
    answerCameraDisable i.val s = accept s .nothing := by
  rw [answerCameraDisable, onCamera_val, if_pos h]

theorem answerCameraDisable_enabled (h : s.cams[i].port.link ≠ .disabled) :
    answerCameraDisable i.val s = accept (s.flushCam i ((s.cams[i]).disable s.clock)) .nothing := by
  rw [answerCameraDisable, onCamera_val, if_neg h]

theorem answerCameraRetrain_working
    (h : s.cams[i].port.link = .training ∨ s.cams[i].port.link = .locked ∨ s.cams[i].port.link = .failed) :
    answerCameraRetrain i.val s = accept (s.flushCam i ((s.cams[i]).retrained s.clock)) .nothing := by
  rw [answerCameraRetrain, onCamera_val]
  rcases h with h | h | h <;> (rw [h]; rfl)

theorem answerCameraRetrain_idle (h : s.cams[i].port.link = .down ∨ s.cams[i].port.link = .disabled) :
    answerCameraRetrain i.val s = refuse s .wrongState := by
  rw [answerCameraRetrain, onCamera_val]
  rcases h with h | h <;> rw [h]

end

/-- Settles O26, request by request and by the link state. -/
theorem cameraSwitchedAndRetrained : Obligations.CameraSwitchedAndRetrained := by
  refine ⟨fun s h cam hp hlen => ⟨fun hb => ?_, fun i hc => ?_⟩, fun s h cam hp hlen => ⟨fun hb => ?_, fun i hc => ?_⟩,
    fun s h cam hp hlen => ⟨fun hb => ?_, fun i hc => ?_⟩⟩
  · exact request_refused hp (lengthIs_eq hlen) (onCamera_above hb _ _)
  · subst hc
    exact ⟨fun hl => request_accepted hp (lengthIs_eq hlen) (answerCameraEnable_disabled hl),
      fun hl => request_accepted hp (lengthIs_eq hlen) (answerCameraEnable_enabled hl)⟩
  · exact request_refused hp (lengthIs_eq hlen) (onCamera_above hb _ _)
  · subst hc
    exact ⟨fun hl => request_accepted hp (lengthIs_eq hlen) (answerCameraDisable_enabled hl),
      fun hl => request_accepted hp (lengthIs_eq hlen) (answerCameraDisable_disabled hl)⟩
  · exact request_refused hp (lengthIs_eq hlen) (onCamera_above hb _ _)
  · subst hc
    exact ⟨fun hl => request_accepted hp (lengthIs_eq hlen) (answerCameraRetrain_working hl),
      fun hl => request_refused hp (lengthIs_eq hlen) (answerCameraRetrain_idle hl)⟩

/-! ### READ_CAMERA_REPORT (R19) -/

/-- Settles O27: the report is the camera's, and its newest frame that of the READY slot, else of the SHOWING one. -/
theorem cameraReportReadsOnly : Obligations.CameraReportReadsOnly := by
  intro s h cam hp hlen
  refine ⟨fun hb => request_refused hp (lengthIs_eq hlen) (onCamera_above hb _ _), fun i hc => ?_⟩
  subst hc
  refine ⟨(s.frameArrives.cams[i]).report, request_accepted hp (lengthIs_eq hlen) (onCamera_val i _ _), rfl, rfl, rfl,
    rfl, rfl, rfl, rfl, rfl, rfl, rfl, rfl, fun hs => ⟨fun j f hj => ?_, fun j f hn hj => ?_⟩, fun hn => ?_⟩
  · exact congrArg (Option.map Frame.record) ((newestFrame_eq_some_iff hs f).2 (.inl ⟨j, hj⟩))
  · exact congrArg (Option.map Frame.record) ((newestFrame_eq_some_iff hs f).2 (.inr ⟨hn, j, hj⟩))
  · have none : (s.frameArrives.cams[i]).ring.newestFrame = none := by
      rw [newestFrame_of_none (readyFrame_eq_none fun j f => (hn j f).1)]
      exact showingFrame_eq_none fun j f => (hn j f).2
    exact congrArg (Option.map Frame.record) none

/-! ### ENTER_STANDBY (R138) -/

/-- Settles O46, by the moving signal and, camera by camera, by *enabled*. -/
theorem standbyEntered : Obligations.StandbyEntered := by
  intro s h hp hlen
  refine ⟨fun hm => ?_, fun hm => ?_⟩
  · exact request_refused hp (lengthIs_eq hlen) (by rw [answerEnterStandby, if_pos hm])
  · have entered : answerEnterStandby s.frameArrives = accept s.frameArrives.enterStandby .nothing := by
      rw [answerEnterStandby, if_neg (by rw [hm]; nofun)]
    refine ⟨_, request_accepted hp (lengthIs_eq hlen) entered, fun i => ?_⟩
    have cam : s.frameArrives.enterStandby.cams[i] =
        if (s.frameArrives.cams[i]).port.config.enabled then (s.frameArrives.cams[i]).enterStandby s.frameArrives.clock
        else s.frameArrives.cams[i] := by
      simp [State.enterStandby, State.discardContext]
    refine ⟨fun he => ?_, fun he => ?_⟩
    · exact cam.trans (if_neg (by rw [he]; nofun))
    · exact cam.trans (if_pos he)

/-! ### A wake (R22, R33, R125, R139) -/

section
variable (c : Cam) (now : Nat)

/-- A port that recorded being enabled is powered, a present carrier begins a sweep, and its lost deadline starts (R22, R33). -/
theorem camWake_eq : c.wake now =
    if c.port.wasEnabled then
      { c with
        port :=
          (let p := { c.port with linkPower := true, wasEnabled := false }
           if p.carrier then p.sweeping now else p)
        ring := { c.ring with lostTimer := some (now + 300 * c.port.config.items.lostLimit) } }
    else c := rfl

end

/-- The display output after a wake (R125). -/
theorem wake_disp {s : State} (h : s.sig.standby = true) :
    s.wake.disp = if s.disp.enable = true ∧ s.disp.state = .off then s.disp.takeStaged.enterStarting s.clock
      else s.disp := by
  have e : s.wake.disp =
      if s.disp.enable && s.disp.state == .off then s.disp.takeStaged.enterStarting s.clock else s.disp := by
    rw [State.wake, if_pos h]
    rfl
  rw [e]
  simp only [Bool.and_eq_true, beq_iff_eq]

/-- What a wake leaves of a part in standby (R139). -/
theorem wake_eq {s : State} (h : s.sig.standby = true) :
    s.wake = { s with
      sig := { s.sig with standby := false }
      cams := mapTable (fun c => c.wake s.clock) s.cams
      disp := s.wake.disp
      sts := { s.sts with events := s.sts.events ||| 0x40000000#32 } } := by
  rw [State.wake, if_pos h]
  rfl

/-! ### The hand-off of a signal event (R135, R139, R147) -/

theorem wireWakes_iff (before after : SignalUnit) :
    wireWakes before after = true ↔
      ∃ n : Fin 6, before.active n = false ∧ after.active n = true ∧ after.config.wakeSet.getLsbD n = true := by
  simp [wireWakes, and_assoc]

/-- Two signal units with the same records have the same sixteen values. -/
theorem values_eq_iff (u v : SignalUnit) :
    u.values = v.values ↔ ∀ i : Fin 16, u.signals[i].value = v.signals[i].value := by
  constructor
  · intro h i
    have := congrArg (fun t => t[i]) h
    simpa [SignalUnit.values] using this
  · intro h
    apply Vector.ext
    intro i hi
    simpa [SignalUnit.values] using h ⟨i, hi⟩

section
variable (d : Display) (now : Nat)

/-- The moving signal cancels a pending hold (R120). -/
theorem onMoving_running (h : d.state = .running) : d.onMoving now = { d with holdPending := false } := by
  rw [Display.onMoving, h]

/-- HOLD is left for RUNNING when no other timing is staged (R122). -/
theorem leaveHold_running (h : ∀ z, d.staged = some z → z = d.current) :
    d.leaveHold now = { d with state := .running, holdTimer := none, staged := none } := by
  unfold Display.leaveHold
  split
  · rename_i z hz
    rw [if_neg (not_not.2 (h z hz))]
  · rename_i hz
    rw [← hz]

/-- HOLD is left for STARTING when another timing is staged (R122). -/
theorem leaveHold_starting {z : Timing} (hz : d.staged = some z) (hn : z ≠ d.current) :
    d.leaveHold now = Display.enterStarting { d with current := z, staged := none } now := by
  unfold Display.leaveHold
  rw [hz]
  exact if_pos hn

theorem onMoving_hold (h : d.state = .hold) : d.onMoving now = d.leaveHold now := by
  rw [Display.onMoving, h]

theorem onMoving_other (h : d.state = .off ∨ d.state = .starting ∨ d.state = .stopping) : d.onMoving now = d := by
  unfold Display.onMoving
  rcases h with h | h | h <;> rw [h]

end

/-- The hand-off re-evaluates at most once, and then tells the display output of the moving signal (R135, R147). -/
theorem handOn_eq (s : State) (before : SignalUnit) :
    s.handOn before =
      (let y := if s.sig.values = before.values then s else s.reevaluate
       if before.movingValue = false ∧ s.sig.movingValue = true then { y with disp := s.disp.onMoving s.clock } else y) := by
  unfold State.handOn
  by_cases hv : s.sig.values = before.values
  · simp only [hv, if_true, Bool.and_eq_true, Bool.not_eq_true']
  · simp only [hv, if_false, Bool.and_eq_true, Bool.not_eq_true', State.reevaluate_sig, State.reevaluate_disp,
      State.reevaluate_clock]

/-- Settles O42: `w` is the part after the wake, if any, and `y` after the re-evaluation, if any. -/
theorem signalChangesAreHandedOn : Obligations.SignalChangesAreHandedOn := by
  intro s u w y
  dsimp only
  intro hwake hsleep hsame hdiff
  have woken : (if wireWakes s.sig u then ({ s with sig := u } : State).wake else { s with sig := u }) = w := by
    by_cases ha : wireWakes s.sig u = true
    · rw [if_pos ha]
      cases hu : u.standby with
      | true =>
        rw [hwake ⟨(wireWakes_iff _ _).1 ha, hu⟩, wake_eq (by exact hu), wake_disp (by exact hu)]
        rfl
      | false => rw [hsleep (.inr hu), wake_awake (by exact hu)]
    · rw [if_neg ha, hsleep (.inl (mt (wireWakes_iff _ _).2 ha))]
  have sig : w.sig = u ∨ w.sig = { u with standby := false } := by
    rw [← woken]
    split
    · unfold State.wake
      split
      · exact .inr rfl
      · exact .inl rfl
    · exact .inl rfl
  have clock : w.clock = s.clock := by
    rw [← woken]
    split
    · exact State.wake_clock _
    · rfl
  have values : w.sig.values = u.values :=
    sig.elim (congrArg SignalUnit.values) (congrArg SignalUnit.values)
  have moving : w.sig.movingValue = u.movingValue :=
    sig.elim (congrArg SignalUnit.movingValue) (congrArg SignalUnit.movingValue)
  have chosen : (if w.sig.values = s.sig.values then w else w.reevaluate) = y := by
    rw [values]
    by_cases hv : u.values = s.sig.values
    · rw [if_pos hv, hsame ((values_eq_iff _ _).1 hv)]
    · rw [if_neg hv, hdiff (mt (values_eq_iff _ _).2 hv)]
  have disp : y.disp = w.disp := by
    rw [← chosen]
    split
    · rfl
    · exact State.reevaluate_disp w
  have event : s.signalEvent u =
      if s.sig.movingValue = false ∧ u.movingValue = true then { y with disp := w.disp.onMoving s.clock } else y := by
    unfold State.signalEvent
    dsimp only
    rw [woken, handOn_eq, chosen, moving, clock]
  refine ⟨fun hm => event.trans (if_neg hm), fun hm => ⟨fun hr => ?_, fun hh hz => ?_, fun z hh hz hn => ?_, fun ho => ?_⟩⟩
  all_goals rw [event, if_pos hm]
  · rw [onMoving_running _ _ hr]
  · rw [onMoving_hold _ _ hh, leaveHold_running _ _ hz]
  · rw [onMoving_hold _ _ hh, leaveHold_starting _ _ hz hn]
    rfl
  · rw [onMoving_other _ _ ho, ← disp]

end Sys2Proof.Machine
end

section
/-! The arrival of a request's frame: what its first byte drops and what it wakes (R139, R170, R173). -/

namespace Sys2Proof.Machine

/-! ### Sets of status items only grow (R156) -/

section
variable {s : State}

theorem settle_keepsEvent {n : Nat} (h : s.sts.events.getLsbD n = true) : s.settle.sts.events.getLsbD n = true := by
  rw [settle_events, BitVec.getLsbD_or, h, Bool.true_or]

theorem settle_keepsNotice (h : s.link.noticePending = true) : s.settle.link.noticePending = true := by
  rw [settle_noticePending, h, Bool.true_or]

end

/-! ### The first byte of a frame (R173) -/

/-- The reply owed is that of an accepted RESET_PART (R178). -/
def State.owesReset (s : State) : Prop := ∃ r, s.link.owed = some r ∧ r.type = 0x82#8 ∧ r.code = .ok

/-- A notice is in progress, with no reply owed (R173). -/
def State.sendsNotice (s : State) : Prop := s.link.owed = none ∧ s.link.tx ≠ .idle

/-- `b` is `s` after its reply owed or its notice in progress was dropped, or `s` itself with neither (R173): what differs
of the status unit and the link port, and what the drop counts and reports. -/
structure State.DroppedBy (s b : State) : Prop where
  whole : b = { s with
    sts := { b.sts with enable := s.sts.enable }
    link := { s.link with
      rx := b.link.rx, owed := none, tx := .idle, noticePending := b.link.noticePending
      counters := { s.link.counters with
        repliesDropped := b.link.counters.repliesDropped, noticesDropped := b.link.counters.noticesDropped } } }
  reply : ∀ r, s.link.owed = some r →
    b.sts.errors = pushError s.sts.errors ⟨.linkCollision, r.type.toNat, s.timeBase % 65536⟩ ∧
    b.link.counters.repliesDropped = min (s.link.counters.repliesDropped + 1) 4294967295
  noReply : s.link.owed = none → b.link.counters.repliesDropped = s.link.counters.repliesDropped
  notice : s.sendsNotice →
    b.sts.errors = pushError s.sts.errors ⟨.linkCollision, 0x7E, s.timeBase % 65536⟩ ∧
    b.link.counters.noticesDropped = min (s.link.counters.noticesDropped + 1) 4294967295
  noNotice : ¬s.sendsNotice → b.link.counters.noticesDropped = s.link.counters.noticesDropped
  errors : s.link.owed = none → s.link.tx = .idle → b.sts.errors = s.sts.errors
  events : ∀ n, s.sts.events.getLsbD n = true → b.sts.events.getLsbD n = true
  noticePending : s.link.noticePending = true → b.link.noticePending = true

theorem resets_iff (r : Reply) : r.resets = true ↔ r.type = 0x82#8 ∧ r.code = .ok := by
  have : replyType 0x02#8 = 0x82#8 := by decide
  simp [Reply.resets, this]

section
variable {s : State}

theorem engaged_false_iff : s.link.engaged = false ↔ s.link.owed = none ∧ s.link.tx = .idle := by
  simp [LinkPort.engaged]

/-- The reply owed is dropped (R173). -/
theorem collide_dropsReply {r : Reply} (ho : s.link.owed = some r) (hr : ¬s.owesReset) : s.DroppedBy s.collide := by
  have keep : r.resets = false := by
    by_contra h
    exact hr ⟨r, ho, (resets_iff r).1 (by simpa using h)⟩
  have e : s.collide = State.settle (State.queueError { s with link := { s.link with
      owed := none, tx := .idle, rx := huntReceiver
      counters := { s.link.counters with repliesDropped := bump s.link.counters.repliesDropped } } }
      .linkCollision r.type.toNat) := by
    unfold State.collide
    rw [ho]
    dsimp only
    rw [State.afterReply, if_neg (by rw [keep]; nofun)]
  rw [e]
  exact {
    whole := rfl
    reply := fun r' h => by
      obtain rfl := Option.some.inj (ho.symm.trans h)
      exact ⟨rfl, rfl⟩
    noReply := fun h => by rw [ho] at h; cases h
    notice := fun h => by
      have none := h.1
      rw [ho] at none
      cases none
    noNotice := fun _ => rfl
    errors := fun h => by rw [ho] at h; cases h
    events := fun n h => settle_keepsEvent h
    noticePending := fun h => settle_keepsNotice h }

/-- The notice in progress is dropped (R173). -/
theorem collide_dropsNotice (hn : s.sendsNotice) : s.DroppedBy s.collide := by
  have e : s.collide = State.settle (State.queueError { s with link := { s.link with
      tx := .idle, rx := huntReceiver
      counters := { s.link.counters with noticesDropped := bump s.link.counters.noticesDropped } } }
      .linkCollision noticeType.toNat) := by
    unfold State.collide
    rw [hn.1]
  rw [e]
  exact {
    whole := by
      rw [← hn.1]
      rfl
    reply := fun r h => by rw [hn.1] at h; cases h
    noReply := fun _ => rfl
    notice := fun _ => ⟨rfl, rfl⟩
    noNotice := fun h => absurd hn h
    errors := fun _ h => absurd h hn.2
    events := fun n h => settle_keepsEvent h
    noticePending := fun h => settle_keepsNotice h }

/-- With nothing owed or sent a byte drops nothing. -/
theorem controllerByte_dropsNothing (ho : s.link.owed = none) (ht : s.link.tx = .idle) : s.DroppedBy s where
  whole := by
    rw [← ho, ← ht]
  reply := fun r h => by rw [ho] at h; cases h
  noReply := fun _ => rfl
  notice := fun h => absurd ht h.2
  noNotice := fun _ => rfl
  errors := fun _ _ => rfl
  events := fun _ h => h
  noticePending := fun h => h

/-- What the first byte of a frame drops, but for an accepted RESET_PART's reply (R173). -/
theorem controllerByte_drops (hr : ¬s.owesReset) : s.DroppedBy s.controllerByte := by
  cases he : s.link.engaged with
  | false =>
    obtain ⟨ho, ht⟩ := engaged_false_iff.1 he
    rw [controllerByte_idle he]
    exact controllerByte_dropsNothing ho ht
  | true =>
    rw [controllerByte_engaged he]
    cases ho : s.link.owed with
    | some r => exact collide_dropsReply ho hr
    | none =>
      refine collide_dropsNotice ⟨ho, fun ht => ?_⟩
      rw [engaged_false_iff.2 ⟨ho, ht⟩] at he
      cases he

/-- The reply of an accepted RESET_PART is dropped, and the soft reset takes effect (R173, R178). -/
theorem controllerByte_resets (hr : s.owesReset) : ∃ u : State, s.controllerByte = u.softReset := by
  obtain ⟨r, ho, hk⟩ := hr
  have he : s.link.engaged = true := by simp [LinkPort.engaged, ho]
  obtain ⟨u, -, -, -, -, hu⟩ := collide_reply ho
  refine ⟨u.settle, ?_⟩
  rw [controllerByte_engaged he, hu, State.afterReply, if_pos ((resets_iff r).2 hk)]

/-! ### After a soft reset the link port is at rest (R177, R178) -/

theorem restartStatus_link (s : State) (fault : Bool) :
    (s.restartStatus fault).link = { s.link with noticePending := (s.restartStatus fault).link.noticePending } := by
  cases fault <;> rfl

theorem softReset_rest (s : State) : s.softReset.link.owed = none ∧ s.softReset.link.tx = .idle ∧
    s.softReset.link.counters = ⟨0, 0, 0, 0, 0, 0⟩ := by
  unfold State.softReset
  dsimp only
  rw [restartStatus_link]
  exact ⟨rfl, rfl, rfl⟩

theorem restartStatus_sig (s : State) (fault : Bool) : (s.restartStatus fault).sig = s.sig := by
  cases fault <;> rfl

theorem softReset_awake (s : State) : s.softReset.sig.standby = false := by
  unfold State.softReset
  dsimp only
  rw [restartStatus_sig]
  rfl

/-! ### The frame is received, and a part in standby wakes (R139, R170) -/

/-- The link port takes the frame: the receiver ends in HUNT, and *frames received* advances (R170 step 1). -/
def State.frameTaken (s : State) : State :=
  { s with link := { s.link with
    rx := huntReceiver
    lastStop := s.clock
    counters := { s.link.counters with framesReceived := bump s.link.counters.framesReceived } } }

theorem frameArrives_eq (s : State) :
    s.frameArrives = if s.controllerByte.sig.standby then s.controllerByte.frameTaken.wake.settle
      else s.controllerByte.frameTaken := rfl

/-- At a frame's arrival nothing is owed or sent any more (R173). -/
theorem frameArrives_rest (s : State) : s.frameArrives.link.owed = none ∧ s.frameArrives.link.tx = .idle := by
  have byte : s.controllerByte.link.owed = none ∧ s.controllerByte.link.tx = .idle := by
    by_cases hr : s.owesReset
    · obtain ⟨u, hu⟩ := controllerByte_resets hr
      rw [hu]
      exact ⟨(softReset_rest u).1, (softReset_rest u).2.1⟩
    · rw [(controllerByte_drops hr).whole]
      exact ⟨rfl, rfl⟩
  rw [frameArrives_eq]
  split
  · rw [settle_owed, settle_tx, State.wake_link]
    exact byte
  · exact byte

/-- A frame whose first byte ends an accepted RESET_PART's reply is the first that the reset part receives (R177). -/
theorem frameArrives_afterReset (hr : s.owesReset) : s.frameArrives.link.counters.framesReceived = 1 := by
  obtain ⟨u, hu⟩ := controllerByte_resets hr
  rw [frameArrives_eq, hu, softReset_awake]
  show bump u.softReset.link.counters.framesReceived = 1
  rw [(softReset_rest u).2.2]
  rfl

/-- The first byte leaves the signal unit, but for a soft reset. -/
theorem controllerByte_sig (hr : ¬s.owesReset) : s.controllerByte.sig = s.sig := by
  rw [(controllerByte_drops hr).whole]

/-- An awake part: the frame's arrival is its first byte and its reception (R170 step 1). -/
theorem frameArrives_whenAwake (hr : ¬s.owesReset) (hs : s.sig.standby = false) :
    s.frameArrives = s.controllerByte.frameTaken := by
  rw [frameArrives_eq, controllerByte_sig hr, if_neg (by rw [hs]; nofun)]

/-- A part in standby wakes at the end of the frame's arrival (R139). -/
theorem frameArrives_whenStandby (hr : ¬s.owesReset) (hs : s.sig.standby = true) :
    s.frameArrives = s.controllerByte.frameTaken.wake.settle := by
  rw [frameArrives_eq, controllerByte_sig hr, if_pos hs]

/-- What the frame's arrival leaves of the state after its first byte, woken or not. -/
theorem frameArrives_keeps (hr : ¬s.owesReset) (b : State) (hb : b = s.controllerByte) :
    s.frameArrives.sts.errors = b.sts.errors ∧
    s.frameArrives.link = { b.link with
      rx := ⟨.hunt, [], none⟩, lastStop := b.clock, noticePending := s.frameArrives.link.noticePending
      counters := { b.link.counters with framesReceived := min (b.link.counters.framesReceived + 1) 4294967295 } } ∧
    (∀ n, b.sts.events.getLsbD n = true → s.frameArrives.sts.events.getLsbD n = true) ∧
    (b.link.noticePending = true → s.frameArrives.link.noticePending = true) ∧
    s.frameArrives = { b with
      cams := s.frameArrives.cams, disp := s.frameArrives.disp, sig := { b.sig with standby := false }
      sts := { s.frameArrives.sts with enable := b.sts.enable }
      link := s.frameArrives.link } := by
  subst hb
  cases hs : s.sig.standby with
  | false =>
    have awake : s.controllerByte.sig = { s.controllerByte.sig with standby := false } := by
      rw [controllerByte_sig hr, ← hs]
    rw [frameArrives_whenAwake hr hs]
    refine ⟨rfl, rfl, fun _ h => h, fun h => h, ?_⟩
    rw [← awake]
    rfl
  | true =>
    have asleep : s.controllerByte.frameTaken.sig.standby = true := by
      show s.controllerByte.sig.standby = true
      rw [controllerByte_sig hr, hs]
    rw [frameArrives_whenStandby hr hs]
    rw [wake_eq asleep]
    refine ⟨rfl, rfl, fun n h => settle_keepsEvent ?_, fun h => settle_keepsNotice h, rfl⟩
    show (s.controllerByte.sts.events ||| _).getLsbD n = true
    rw [BitVec.getLsbD_or, h, Bool.true_or]

/-- What wakes at a frame's arrival in standby (R22, R33, R125, R139). -/
theorem frameArrives_woken (hr : ¬s.owesReset) (hs : s.sig.standby = true) :
    s.frameArrives.sts.events.getLsbD 30 = true ∧
    (∀ i : Fin 4, s.frameArrives.cams[i] = (s.cams[i]).wake s.clock) ∧
    s.frameArrives.disp = if s.disp.enable = true ∧ s.disp.state = .off then s.disp.takeStaged.enterStarting s.clock
      else s.disp := by
  obtain ⟨sts, link, whole⟩ : ∃ sts link, s.controllerByte.frameTaken = { s with sts := sts, link := link } := by
    refine ⟨s.controllerByte.sts, s.controllerByte.frameTaken.link, ?_⟩
    unfold State.frameTaken
    rw [(controllerByte_drops hr).whole]
  have asleep : ({ s with sts := sts, link := link } : State).sig.standby = true := hs
  rw [frameArrives_whenStandby hr hs, whole]
  refine ⟨settle_keepsEvent ?_, fun i => ?_, ?_⟩
  · rw [wake_eq asleep]
    show (sts.events ||| 0x40000000#32).getLsbD 30 = true
    rw [BitVec.getLsbD_or, show (0x40000000#32).getLsbD 30 = true by decide, Bool.or_true]
  · rw [State.settle_cams, wake_eq asleep]
    exact mapTable_get _ _ i.val i.isLt
  · rw [State.settle_disp, wake_disp asleep]

/-- An awake part's cameras and output are as they were (R170). -/
theorem frameArrives_unwoken (hr : ¬s.owesReset) (hs : s.sig.standby = false) :
    s.frameArrives.cams = s.cams ∧ s.frameArrives.disp = s.disp := by
  rw [frameArrives_whenAwake hr hs]
  unfold State.frameTaken
  rw [(controllerByte_drops hr).whole]
  exact ⟨rfl, rfl⟩

end

/-- Settles O8: what the first byte drops, what the reception counts, and what wakes. -/
theorem requestFrameArrival : Obligations.RequestFrameArrival := by
  intro s
  refine ⟨fun ho ht hs => ?_, ⟨frameArrives_standby s, frameArrives_rest s⟩, frameArrives_afterReset, fun hr => ?_⟩
  · have hr : ¬s.owesReset := by
      rintro ⟨r, hr, -⟩
      rw [ho] at hr
      cases hr
    rw [frameArrives_whenAwake hr hs, controllerByte_idle (engaged_false_iff.2 ⟨ho, ht⟩)]
    rfl
  · have drop := controllerByte_drops (s := s) hr
    obtain ⟨errors, link, events, pending, whole⟩ := frameArrives_keeps (s := s) hr _ rfl
    generalize s.controllerByte = b at drop errors link events pending whole
    have counters : s.frameArrives.link.counters =
        { b.link.counters with framesReceived := min (b.link.counters.framesReceived + 1) 4294967295 } := by
      rw [link]
    have dropped : s.frameArrives.link.counters.repliesDropped = b.link.counters.repliesDropped ∧
        s.frameArrives.link.counters.noticesDropped = b.link.counters.noticesDropped := by
      rw [counters]
      exact ⟨rfl, rfl⟩
    obtain ⟨replies, notices⟩ := dropped
    refine ⟨?_, fun r ho => ?_, fun ho => ?_, fun hn => ?_, fun hn => ?_, fun ho ht => ?_, fun n h => ?_, fun h => ?_,
      fun hs => frameArrives_unwoken hr hs, fun hs => ?_⟩
    · rw [replies, notices]
      refine whole.trans ?_
      rw [link, drop.whole]
    · rw [errors, replies]
      exact drop.reply r ho
    · exact replies.trans (drop.noReply ho)
    · rw [errors, notices]
      exact drop.notice hn
    · exact notices.trans (drop.noNotice hn)
    · exact errors.trans (drop.errors ho ht)
    · exact events n (drop.events n h)
    · exact pending (drop.noticePending h)
    · obtain ⟨woke, cams, disp⟩ := frameArrives_woken hr hs
      refine ⟨woke, fun i => (cams i).trans (camWake_eq _ _), fun hd => ?_, fun hd => ?_⟩
      · rw [disp]
        cases he : s.disp.enable with
        | true => exact if_pos ⟨rfl, hd⟩
        | false => exact if_neg (by simp)
      · rw [disp]
        exact if_neg fun h => hd h.2

/-- Settles O9, from the arrival of a request's frame (O8): IDENTIFY's own effect changes no block. -/
theorem frameWakesThePart : Obligations.FrameWakesThePart := by
  intro s h hp hs ho ht hlen
  obtain ⟨-, -, -, arrival⟩ := requestFrameArrival s
  have hr : ¬∃ r, s.link.owed = some r ∧ r.type = 0x82#8 ∧ r.code = .ok := by
    rintro ⟨r, hr, -⟩
    rw [ho] at hr
    cases hr
  obtain ⟨whole, -, -, -, -, -, -, -, -, woken⟩ := arrival hr
  obtain ⟨woke, cams, off, -⟩ := woken hs
  have answer : exec (.identify h) s = .next (s.frameArrives.answered 0x01#8 h .ok (.identify s.frameArrives.identity)) :=
    request_accepted (owner := fun t => accept t (.identify t.identity)) hp (lengthIs_eq hlen) rfl
  refine ⟨_, answer, ?_, settle_keepsEvent woke, cams, fun hd => ?_, ?_⟩
  · exact congrArg State.sig whole
  · have disp := off hd
    show s.frameArrives.disp.state = _ ∧ s.frameArrives.disp.current = _ ∧ s.frameArrives.disp.staged = _ ∧
      s.frameArrives.disp.settleTimer = _
    rw [disp]
    cases s.disp.enable with
    | true => exact ⟨rfl, rfl, rfl, rfl⟩
    | false => exact ⟨hd, rfl, rfl, rfl⟩
  · have mesh := congrArg State.mesh whole
    have views := congrArg State.views whole
    have sel := congrArg State.sel whole
    have comp := congrArg State.comp whole
    have prf := congrArg State.prf whole
    exact ⟨mesh, views, sel, comp, prf⟩

end Sys2Proof.Machine
end

section
/-! Replies and notices: when they begin and end, and the bytes and characters sent (R1, R167 to R174). -/

namespace Sys2Proof.Machine

/-! ### The beginnings and the ends (R171, R172) -/

section
variable {s : State}

theorem noticeReady_iff (l : LinkPort) :
    l.noticeReady = true ↔ l.noticePending = true ∧ l.owed = none ∧ l.tx = .idle ∧ l.rx.state = .hunt := by
  simp [LinkPort.noticeReady, and_assoc]

theorem isNotice_iff (t : Transmitter) : t.isNotice = true ↔ ∃ n, t = .notice n := by
  cases t <;> simp [Transmitter.isNotice]

/-- The owed reply is not being sent, and the transmitter is in `tx`: a reply's beginning (`idle`) or end (`reply`) happens. -/
theorem owedAnd_iff {tx : Transmitter} :
    (s.link.owed.isSome && s.link.tx == tx) = true ↔ (∃ r, s.link.owed = some r) ∧ s.link.tx = tx := by
  simp [Option.isSome_iff_exists]

theorem owedAnd_false {tx : Transmitter} (h : s.link.owed = none ∨ s.link.tx ≠ tx) :
    (s.link.owed.isSome && s.link.tx == tx) = false := by
  by_contra hc
  obtain ⟨⟨r, hr⟩, ht⟩ := owedAnd_iff.1 (by simpa using hc)
  rcases h with h | h
  · rw [hr] at h; cases h
  · exact h ht

theorem exec_replyStart (hp : s.powered = true) {r : Reply} (ho : s.link.owed = some r) (ht : s.link.tx = .idle) :
    exec .replyStart s = .next (State.settle { s with
      clock := max s.clock (r.owedAt + 30), link := { s.link with tx := .reply } }) := by
  show execReplyStart s = _
  rw [execReplyStart, event_occurs _ hp (owedAnd_iff.2 ⟨⟨r, ho⟩, ht⟩)]
  dsimp only
  have due : (s.link.owed.map fun r => r.owedAt + replyDelay) = some (r.owedAt + 30) := by
    rw [ho]
    rfl
  rw [due]
  rfl

theorem exec_replyStart_idle (h : s.link.owed = none ∨ s.link.tx ≠ .idle) : exec .replyStart s = .next s := by
  show execReplyStart s = _
  exact event_idle _ _ (owedAnd_false h)

theorem exec_replyEnd (hp : s.powered = true) {r : Reply} (ho : s.link.owed = some r) (ht : s.link.tx = .reply) :
    exec .replyEnd s = .next (State.settle (State.afterReply { s with link := { s.link with
      owed := none, tx := .idle, lastStop := s.clock
      counters := { s.link.counters with repliesSent := bump s.link.counters.repliesSent } } } r)) := by
  show execReplyEnd s = _
  rw [execReplyEnd, event_occurs _ hp (owedAnd_iff.2 ⟨⟨r, ho⟩, ht⟩)]
  dsimp only
  rw [ho]

theorem exec_replyEnd_idle (h : s.link.owed = none ∨ s.link.tx ≠ .reply) : exec .replyEnd s = .next s := by
  show execReplyEnd s = _
  exact event_idle _ _ (owedAnd_false h)

theorem exec_noticeStart (hp : s.powered = true) (hn : s.link.noticeReady = true) :
    exec .noticeStart s = .next (State.settle { s with
      clock := max s.clock (s.link.lastStop + 300 * 3)
      link := { s.link with
        noticePending := false
        tx := .notice ⟨s.sts.conditions, s.sts.events, max s.clock (s.link.lastStop + 300 * 3) / 300 % 4294967296⟩ } }) := by
  show execNoticeStart s = _
  rw [execNoticeStart, event_occurs _ hp hn]
  rfl

theorem exec_noticeStart_idle
    (h : s.link.noticePending = false ∨ s.link.owed ≠ none ∨ s.link.tx ≠ .idle ∨ s.link.rx.state ≠ .hunt) :
    exec .noticeStart s = .next s := by
  show execNoticeStart s = _
  refine event_idle _ _ (Bool.eq_false_iff.2 fun ready => ?_)
  obtain ⟨hn, ho, ht, hx⟩ := (noticeReady_iff _).1 ready
  rcases h with h | h | h | h
  · rw [hn] at h; cases h
  · exact h ho
  · exact h ht
  · exact h hx

theorem exec_noticeEnd (hp : s.powered = true) {n : Notice} (hn : s.link.tx = .notice n) :
    exec .noticeEnd s = .next (State.settle { s with link := { s.link with
      tx := .idle, lastStop := s.clock
      counters := { s.link.counters with noticesSent := bump s.link.counters.noticesSent } } }) := by
  show execNoticeEnd s = _
  rw [execNoticeEnd, event_occurs _ hp ((isNotice_iff _).2 ⟨n, hn⟩)]

theorem exec_noticeEnd_idle (h : ∀ n, s.link.tx ≠ .notice n) : exec .noticeEnd s = .next s := by
  show execNoticeEnd s = _
  exact event_idle _ _ (Bool.eq_false_iff.2 fun sends => ((isNotice_iff _).1 sends).elim h)

end

/-! ### The check (R1) -/

theorem crcBit_eq (r : BitVec 16) : crcBit r = if r.getLsbD 15 then (r <<< 1) ^^^ 0x1021#16 else r <<< 1 := by
  rw [crcBit, BitVec.msb_eq_getLsbD_last]

/-- A byte enters at the high end of the check register. -/
theorem highByte_eq (b : Byte) : b.zeroExtend 16 <<< 8 = BitVec.ofNat 16 (b.toNat * 256) := by
  apply BitVec.eq_of_toNat_eq
  rw [BitVec.toNat_shiftLeft, BitVec.toNat_setWidth, BitVec.toNat_ofNat, Nat.shiftLeft_eq,
    Nat.mod_eq_of_lt (show b.toNat < 2 ^ 16 by omega)]

theorem crc16_append (l : List Byte) (b : Byte) : crc16 (l ++ [b]) = (List.range 8).foldl
    (fun (r : BitVec 16) _ => if r.getLsbD 15 then (r <<< 1) ^^^ 0x1021#16 else r <<< 1)
    (crc16 l ^^^ BitVec.ofNat 16 (b.toNat * 256)) := by
  have step : (fun (r : BitVec 16) (_ : Nat) => if r.getLsbD 15 then (r <<< 1) ^^^ 0x1021#16 else r <<< 1) =
      fun r _ => crcBit r := by
    funext r _
    rw [crcBit_eq]
  rw [step, crc16, List.foldl_append, ← crc16, ← highByte_eq]
  rfl

/-! ### The bytes of a frame (R168, R174) -/

/-- A 16-bit value is its two bytes, high byte first. -/
theorem bytesOfWord_value (w : BitVec 16) : ∃ hi lo : Byte,
    bytesOfWord w = [hi, lo] ∧ hi.toNat * 256 + lo.toNat = w.toNat := by
  refine ⟨_, _, rfl, ?_⟩
  simp only [BitVec.truncate_eq_setWidth, BitVec.toNat_setWidth, BitVec.toNat_ushiftRight, Nat.shiftRight_eq_div_pow]
  omega

/-- A 32-bit value is its four bytes, high byte first (chapter 4.7). -/
theorem bytesOfLong_value (w : BitVec 32) : ∃ b3 b2 b1 b0 : Byte, bytesOfLong w = [b3, b2, b1, b0] ∧
    ((b3.toNat * 256 + b2.toNat) * 256 + b1.toNat) * 256 + b0.toNat = w.toNat := by
  refine ⟨_, _, _, _, rfl, ?_⟩
  simp only [BitVec.truncate_eq_setWidth, BitVec.toNat_setWidth, BitVec.toNat_ushiftRight, Nat.shiftRight_eq_div_pow]
  omega

theorem frameBytes_eq (type tag : Byte) {payload : List Byte} (h : payload.length ≤ 248) : ∃ len hi lo : Byte,
    frameBytes type tag payload = 0xC5#8 :: len :: type :: tag :: payload ++ [hi, lo] ∧ len.toNat = payload.length + 2 ∧
    hi.toNat * 256 + lo.toNat = (crc16 (len :: type :: tag :: payload)).toNat := by
  obtain ⟨hi, lo, bytes, value⟩ := bytesOfWord_value (crc16 (BitVec.ofNat 8 (payload.length + 2) :: type :: tag :: payload))
  refine ⟨_, hi, lo, ?_, ?_, value⟩
  · rw [frameBytes, bytes]
    rfl
  · rw [BitVec.toNat_ofNat, Nat.mod_eq_of_lt (by omega)]

theorem resultCode_value_lt (c : ResultCode) : c.value < 256 := by
  cases c <;> decide

theorem noticeFrame_eq (n : Notice) : ∃ c3 c2 c1 c0 e3 e2 e1 e0 t3 t2 t1 t0 : Byte,
    let value := fun b3 b2 b1 b0 : Byte => ((b3.toNat * 256 + b2.toNat) * 256 + b1.toNat) * 256 + b0.toNat
    n.frame = frameBytes 0x7E#8 0#8 [c3, c2, c1, c0, e3, e2, e1, e0, t3, t2, t1, t0] ∧
    value c3 c2 c1 c0 = n.conditions.toNat ∧ value e3 e2 e1 e0 = n.events.toNat ∧
    value t3 t2 t1 t0 = n.time % 4294967296 := by
  obtain ⟨c3, c2, c1, c0, cBytes, cValue⟩ := bytesOfLong_value n.conditions
  obtain ⟨e3, e2, e1, e0, eBytes, eValue⟩ := bytesOfLong_value n.events
  obtain ⟨t3, t2, t1, t0, tBytes, tValue⟩ := bytesOfLong_value (BitVec.ofNat 32 n.time)
  refine ⟨c3, c2, c1, c0, e3, e2, e1, e0, t3, t2, t1, t0, ?_, cValue, eValue, tValue.trans (BitVec.toNat_ofNat ..)⟩
  rw [Notice.frame, Notice.payload, cBytes, eBytes, tBytes]
  rfl

/-! ### The transmitter (R167) -/

theorem txEnable_iff (s : State) : s.txEnable = true ↔ s.powered = true ∧ s.link.tx ≠ .idle := by
  simp [State.txEnable]

/-- Settles O52: each beginning and end by its own lemma, then the bytes and the characters sent. -/
theorem repliesAndNoticesAreSent : Obligations.RepliesAndNoticesAreSent := by
  refine ⟨fun s hp => ⟨fun r ho ht => exec_replyStart hp ho ht, fun h => exec_replyStart_idle h,
      fun r ho ht hr => ?_, fun h => exec_replyEnd_idle h,
      fun hn ho ht hx => exec_noticeStart hp ((noticeReady_iff _).2 ⟨hn, ho, ht, hx⟩),
      fun h => exec_noticeStart_idle h, fun n hn => exec_noticeEnd hp hn, fun h => exec_noticeEnd_idle h⟩,
    txEnable_iff, fun l b => ⟨rfl, crc16_append l b⟩, fun type tag payload h => frameBytes_eq type tag h, rfl,
    fun r => ⟨_, ?_, rfl⟩, noticeFrame_eq, fun b => rfl, rfl, fun b l => rfl⟩
  · rw [exec_replyEnd hp ho ht, State.afterReply, if_neg fun h => hr ((resets_iff r).1 h)]
    rfl
  · rw [BitVec.toNat_ofNat, Nat.mod_eq_of_lt (resultCode_value_lt r.code)]

end Sys2Proof.Machine
end

section
/-! The reset state (R20, R49, R61, R73, R79, R125, R140, R146, R155, R166) meets every invariant. -/

namespace Sys2Proof.Machine

/-! ### Cameras, meshes and profiles -/

theorem reset_cams (i : Fin 4) : State.reset.cams[i] = resetCam := Vector.getElem_replicate i.isLt

theorem resetCam_ordered : resetCam.Ordered false where
  slots := by unfold slotsSafe; decide
  enabled_iff := by decide
  timer_iff := by decide
  unlocked := fun _ => ⟨rfl, rfl⟩
  open_eq := by decide
  deadlines := ⟨rfl, rfl⟩
  power := rfl
  down := nofun

theorem reset_camerasOrdered : State.reset.ringsSafe ∧ State.reset.camsSafe := by
  rw [← camerasOrdered_iff]
  intro i
  rw [reset_cams]
  exact resetCam_ordered

theorem reset_gainsSafe : State.reset.gainsSafe := by
  intro i
  rw [reset_cams]
  unfold MeterItems.limitsSafe
  decide

/-- The profile store holds no profile after reset (R166). -/
theorem reset_profiles (P : Sys2Proof.Profile → Prop) : State.reset.prf.every P := by
  refine ⟨fun n p check h => ?_, nofun⟩
  have empty : State.reset.prf.slots[n] = .empty := Vector.getElem_replicate n.isLt
  rw [empty] at h
  cases h

theorem reset_meshSafe : State.reset.mesh.safe := by
  have free (i : Fin 8) : State.reset.mesh.slots[i] = .free := Vector.getElem_replicate i.isLt
  refine ⟨by decide, fun i => ?_, fun i => ?_⟩
  · rw [free]
    trivial
  · rw [free]
    intro u hu
    cases hu

/-! ### Views and the selection -/

theorem factoryView_safe : View.safe factoryView := by
  unfold View.safe
  decide

/-- Only view 0 is defined, the factory view (R94). -/
theorem reset_views (i : Fin 16) : State.reset.views[i] = if i = 0 then some factoryView else none := by
  fin_cases i <;> rfl

theorem reset_viewsSafe : viewsSafe State.reset.views := by
  intro i v h
  rw [reset_views] at h
  split at h
  · cases h
    exact factoryView_safe
  · cases h

theorem reset_entries (i : Fin 16) : State.reset.sel.entries[i] = none := Vector.getElem_replicate i.isLt

theorem reset_refsSafe : State.reset.refsSafe := by
  refine ⟨rfl, nofun, rfl, nofun, fun i e h => ?_⟩
  rw [reset_entries] at h
  cases h

theorem reset_selectionSafe : State.reset.selectionSafe := by
  refine ⟨rfl, rfl, fun i e h => ?_⟩
  rw [reset_entries] at h
  cases h

/-! ### Signals, output, status and link -/

/-- The factory source of a signal and its record after reset (R128, R140). -/
theorem factorySignal_source (i : Fin 16) :
    (∃ h : i.val < 6, (factorySignal i).source = .wire ⟨i.val, h⟩ ∧ resetSignal i = ⟨false, .none, none⟩) ∨
    ((factorySignal i).source = .message ∧ resetSignal i = ⟨false, .stale, none⟩) ∨
    (∃ on off, (factorySignal i).source = .speed on off ∧ resetSignal i = ⟨true, .stale, none⟩) := by
  unfold factorySignal resetSignal
  by_cases wired : i.val < 6
  · exact .inl ⟨wired, by rw [dif_pos wired], if_pos wired⟩
  rw [dif_neg wired, if_neg wired]
  by_cases message : i.val < 14
  · rw [if_pos message, if_pos message]
    exact .inr (.inl ⟨rfl, rfl⟩)
  rw [if_neg message, if_neg message]
  split
  · exact .inr (.inr ⟨5, 3, rfl, rfl⟩)
  · exact .inr (.inr ⟨30, 25, rfl, rfl⟩)

theorem reset_wires (n : Fin 6) : State.reset.sig.wires[n] = ⟨false, false, none, 0⟩ := Vector.getElem_replicate n.isLt

theorem reset_wire_inactive (n : Fin 6) : State.reset.sig.active n = false := by
  have items : State.reset.sig.config.wires[n] = ⟨.activeHigh, 20⟩ := Vector.getElem_replicate n.isLt
  rw [SignalUnit.active, items, reset_wires]
  rfl

theorem reset_recordSafe (i : Fin 16) : State.reset.sig.recordSafe i := by
  have items : State.reset.sig.config.signals[i] = factorySignal i := tabulate_get factorySignal i.val i.isLt
  have record : State.reset.sig.signals[i] = resetSignal i := tabulate_get resetSignal i.val i.isLt
  unfold SignalUnit.recordSafe
  rw [items, record]
  obtain ⟨h, source, value⟩ | ⟨source, value⟩ | ⟨_, _, source, value⟩ := factorySignal_source i
  · rw [source, value]
    show SignalRecord.mk false .none none = ⟨State.reset.sig.active ⟨i.val, h⟩, .none, none⟩
    rw [reset_wire_inactive]
  · rw [source, value]
    rfl
  · rw [source, value]
    exact ⟨rfl, rfl⟩

theorem reset_sigSafe : State.reset.sig.safe := ⟨reset_recordSafe, rfl, nofun⟩

theorem reset_wiresSafe : State.reset.wiresSafe := by
  intro _ n
  rw [reset_wires]
  decide

theorem reset_outputSafe : State.reset.outputSafe := by
  unfold State.outputSafe
  decide

theorem reset_statusSafe : State.reset.statusSafe := fun _ => ⟨by decide, by decide⟩

/-- Settles O60, block by block. -/
theorem resetStateIsInOrder : Obligations.ResetStateIsInOrder := by
  obtain ⟨rings, cams⟩ := reset_camerasOrdered
  exact ⟨rings, cams, reset_gainsSafe, reset_profiles _, reset_meshSafe, reset_profiles _, reset_viewsSafe,
    reset_profiles _, reset_refsSafe, reset_profiles _, reset_selectionSafe, reset_sigSafe, reset_wiresSafe,
    reset_outputSafe, reset_statusSafe, rfl, trivial⟩

end Sys2Proof.Machine
end

section
/-! What a reset leaves of every block (R20, R43, R59, R72, R94, R114, R125, R129, R132, R140, R155, R162, R165, R166). -/

namespace Sys2Proof.Machine

/-! ### The profile store and the configuration that slot 0 gives (R162, R165) -/

section
variable (z : ProfileStore)

/-- The store with a save in progress cut off: its slot INVALID (R162, R165). -/
def ProfileStore.cut : ProfileStore :=
  match z.save with
  | some v => ⟨z.slots.set v.slot .invalid, none⟩
  | none => z

/-- What slot 0 gives the part that starts (R165). -/
def ProfileStore.startChoice : Profile × Bool × Bool := startConfiguration z.cut.slots[0]

/-- The store after the start: a corrupt slot 0 is INVALID (R165). -/
def ProfileStore.started : ProfileStore :=
  if z.startChoice.2.1 then { z.cut with slots := z.cut.slots.set 0 .invalid } else z.cut

theorem cutSave_eq (s : State) : s.cutSave = { s with prf := s.prf.cut } := by
  unfold State.cutSave ProfileStore.cut
  cases s.prf.save <;> rfl

theorem cut_save : z.cut.save = none := by
  unfold ProfileStore.cut
  split
  · rfl
  · assumption

theorem cut_slot0 : z.cut.slots[0] = match z.save with
    | some v => if v.slot = 0 then .invalid else z.slots[0]
    | none => z.slots[0] := by
  unfold ProfileStore.cut
  cases z.save with
  | none => rfl
  | some v =>
    dsimp only
    rw [Vector.getElem_set]
    exact if_congr (by rw [Fin.ext_iff]; rfl) rfl rfl

theorem cut_saved {v : Save} (h : z.save = some v) : z.cut.slots[v.slot] = .invalid := by
  unfold ProfileStore.cut
  rw [h]
  exact Vector.getElem_set_self v.slot.isLt

theorem cut_other {n : Fin 4} (h : ∀ v, z.save = some v → v.slot ≠ n) : z.cut.slots[n] = z.slots[n] := by
  unfold ProfileStore.cut
  split
  · next v hv =>
    exact Vector.getElem_set_ne v.slot.isLt n.isLt fun e => h v hv (Fin.ext e)
  · rfl

theorem started_save : z.started.save = none := by
  unfold ProfileStore.started
  split <;> exact cut_save z

/-- Beyond slot 0 the start leaves the store. -/
theorem started_other {n : Fin 4} (h : n ≠ 0) : z.started.slots[n] = z.cut.slots[n] := by
  unfold ProfileStore.started
  split
  · exact Vector.getElem_set_ne (by decide) n.isLt fun e => h (Fin.ext e.symm)
  · rfl

theorem started_slot0_corrupt (h : z.startChoice.2.1 = true) : z.started.slots[0] = .invalid := by
  unfold ProfileStore.started
  rw [if_pos h]
  exact Vector.getElem_set_self (by decide)

theorem started_slot0_kept (h : z.startChoice.2.1 = false) : z.started.slots[0] = z.cut.slots[0] := by
  unfold ProfileStore.started
  rw [if_neg (by rw [h]; nofun)]

/-- A slot whose save was cut off is INVALID after the start. -/
theorem started_saved {v : Save} (h : z.save = some v) : z.started.slots[v.slot] = .invalid := by
  have atSlot (n : Fin 4) (hn : v.slot = n) : z.started.slots[n] = .invalid := by
    by_cases h0 : n = 0
    · subst h0
      have cut : z.cut.slots[0] = .invalid := by
        rw [cut_slot0, h]
        exact if_pos hn
      have kept : z.startChoice.2.1 = false := by
        rw [ProfileStore.startChoice, cut]
        rfl
      exact (started_slot0_kept z kept).trans cut
    · subst hn
      rw [started_other z h0, cut_saved z h]
  exact atSlot _ rfl

end

/-! ### The start configuration (R165) -/

section
variable (x : ProfileSlot)

theorem startConfiguration_profile : (startConfiguration x).1 = match x with
    | .valid q check => if Config.profileCheck q = check then q else factoryProfile
    | _ => factoryProfile := by
  cases x with
  | empty => rfl
  | invalid => rfl
  | valid q check =>
    by_cases h : Config.profileCheck q = check <;> simp [startConfiguration, checkPasses, h]

theorem startConfiguration_corrupt :
    (startConfiguration x).2.1 = true ↔ ∃ q check, x = .valid q check ∧ Config.profileCheck q ≠ check := by
  cases x with
  | empty => simp [startConfiguration]
  | invalid => simp [startConfiguration]
  | valid q check =>
    by_cases h : Config.profileCheck q = check <;> simp [startConfiguration, checkPasses, h]

theorem startConfiguration_fault : (startConfiguration x).2.2 = true ↔
    x = .invalid ∨ ∃ q check, x = .valid q check ∧ Config.profileCheck q ≠ check := by
  cases x with
  | empty => simp [startConfiguration]
  | invalid => simp [startConfiguration]
  | valid q check =>
    by_cases h : Config.profileCheck q = check <;> simp [startConfiguration, checkPasses, h]

end

/-! ### The blocks (R166) -/

section
variable (s : State) (p : Profile)

/-- A camera after a reset (R20, R43, R59). -/
theorem restart_eq_emptied (c : Cam) (config : PortConfig) (meter : MeterItems) (now : Nat) : ∃ q : Port,
    q = { config := config
          link := if config.enabled then .down else .disabled
          carrier := c.port.carrier
          linkPower := true, wasEnabled := false
          record := ⟨Vector.replicate 32 .notTried, none, 0, none, 0⟩
          phase := 0, words := [], wordTimer := none, frameOpen := false, expectedLine := 0, rejections := 0
          counters := ⟨0, 0, 0, 0, 0, 0, 0, 0⟩ } ∧
    c.restart config meter now = Cam.emptied
      { port := if q.config.enabled && q.carrier then q.sweeping now else q
        ring := c.ring
        meter := ⟨meter, 0, 0, []⟩ }
      now q.config.enabled := by
  refine ⟨_, rfl, ?_⟩
  obtain ⟨on, items⟩ := config
  unfold Cam.restart
  generalize c.port.carrier = carrier
  cases on with
  | false => rfl
  | true => cases carrier <;> rfl

theorem restartBlocks_cam (i : Fin 4) :
    (s.restartBlocks p).cams[i] = (s.cams[i]).restart p.ports[i] p.meters[i] s.clock :=
  tabulate_get (fun i => (s.cams[i]).restart p.ports[i] p.meters[i] s.clock) i.val i.isLt

theorem restartBlocks_mesh (i : Fin 8) : (s.restartBlocks p).mesh.slots[i] = match p.meshes[i] with
    | some m => .ready m
    | none => .free := by
  have e : (s.restartBlocks p).mesh.slots[i] = meshSlotOf p.meshes[i] := mapTable_get _ _ i.val i.isLt
  rw [e]
  cases p.meshes[i] <;> rfl

/-- The selector that takes the profile's table, every entry IDLE, with the reset's time as activation time (R155). -/
def freshSelector (timeBase : Nat) : Selector :=
  ⟨mapTable (Option.map idleEntry) p.table, none, p.defaultView, .default, timeBase, p.defaultView⟩

theorem restartBlocks_sel : (s.restartBlocks p).sel =
    ((freshSelector p s.timeBase).judge (s.restartBlocks p).sig.values s.timeBase s.clock).choose s.timeBase := rfl

/-- Its entries are judged from IDLE (R142, R155). -/
theorem restartBlocks_entry (i : Fin 16) : (s.restartBlocks p).sel.entries[i] = (p.table[i]).map fun c =>
    ⟨c, if EntryConfig.termsHold c (s.restartBlocks p).sig.values then .held else .idle⟩ := by
  have fresh : (freshSelector p s.timeBase).entries[i] = (p.table[i]).map idleEntry := mapTable_get _ _ i.val i.isLt
  rw [restartBlocks_sel, choose_entries, selector_judge_entry, fresh, Option.map_map]
  rfl

theorem restartBlocks_choice : (s.restartBlocks p).sel.override = none ∧
    (s.restartBlocks p).sel.defaultView = p.defaultView ∧
    (s.restartBlocks p).sel.active = (s.restartBlocks p).sel.choice ∧
    (s.restartBlocks p).sel.selected = (s.restartBlocks p).sel.viewOf (s.restartBlocks p).sel.active ∧
    (s.restartBlocks p).sel.activation = s.timeBase := by
  rw [restartBlocks_sel]
  refine ⟨rfl, rfl, ?_, ?_, ?_⟩
  · rw [choose_active, choose_choice]
  · rw [choose_selected, choose_active, choose_viewOf]
  · rw [choose_activation]
    exact ite_self _

theorem restartBlocks_wire (n : Fin 6) :
    (s.restartBlocks p).sig.wires[n] = { s.sig.wires[n] with accepted := s.sig.wires[n].raw, timer := none } :=
  mapTable_get _ _ n.val n.isLt

theorem restart_signal (u : SignalUnit) (c : SignalConfig) (i : Fin 16) : (u.restart c).signals[i] =
    SignalUnit.reinitialise { u.restart c with signals := u.signals } c.signals[i] ⟨false, .none, none⟩ := by
  have records : (u.restart c).signals = mapTable (fun items => SignalUnit.reinitialise
      { u.restart c with signals := u.signals } items ⟨false, .none, none⟩) c.signals := rfl
  rw [records]
  exact mapTable_get _ c.signals i.val i.isLt

/-- A signal without an input of its own is reinitialised by its fail rule (R132, R136, R140). -/
theorem restartBlocks_signal (i : Fin 16) : (s.restartBlocks p).sig.signals[i] =
    match p.signals.signals[i].source with
    | .wire n => ⟨(s.restartBlocks p).sig.active n, .none, none⟩
    | _ => ⟨p.signals.signals[i].failRule == .setTrue, .stale, none⟩ := by
  have failed (items : SignalItems) : SignalRecord.fail ⟨false, .none, none⟩ items.failRule =
      ⟨items.failRule == .setTrue, .stale, none⟩ := by
    cases h : items.failRule <;> rfl
  have unit : (s.restartBlocks p).sig = s.sig.restart p.signals := rfl
  rw [unit, restart_signal, SignalUnit.reinitialise]
  cases p.signals.signals[i].source with
  | wire n => rfl
  | message => exact failed _
  | speed on off => exact failed _

end

/-! ### The status unit at the end of a reset (R156, R157, R165, R166) -/

section
variable (x : State) (fault : Bool)

theorem itemBit_getLsbD (k : Nat) (n : Fin 32) : (itemBit k).getLsbD n = true ↔ n.val = k := by
  rw [itemBit, BitVec.getLsbD_shiftLeft, BitVec.getLsbD_one]
  simp
  omega

theorem pushError_ne_nil (q : List ErrorEntry) (e : ErrorEntry) : pushError q e ≠ [] := by
  unfold pushError
  split
  · simp
  · split
    · split <;> simp
    · simp

/-- An error entry can only make the condition ERROR_PENDING, item 29, true (R156). -/
theorem conditionItem_error {y : State} (hy : y = { x with sts := y.sts }) (he : y.sts.errors ≠ []) (n : Fin 32) :
    (y.conditionItem n = true ∧ x.conditionItem n = false) ↔ n = 29 ∧ x.sts.errors = [] := by
  by_cases hn : n = 29
  · subst hn
    have pending (s : State) : s.conditionItem 29 = !s.sts.errors.isEmpty := rfl
    rw [pending, pending]
    simp [he]
  · have same : y.conditionItem n = x.conditionItem n := by
      have h29 : n.val ≠ 29 := fun h => hn (Fin.ext h)
      rw [hy]
      unfold State.conditionItem
      simp only [if_neg h29]
    rw [same]
    simp [hn]

/-- The events that a reset latches: RESTARTED, and with a PROFILE_FAULT its own and ERROR_PENDING's (R162, R165, R166). -/
theorem restartStatus_events (n : Fin 32) : (x.restartStatus fault).sts.events.getLsbD n = true ↔
    x.sts.events.getLsbD n = true ∨ n = 31 ∨ (fault = true ∧ (n = 26 ∨ (n = 29 ∧ x.sts.errors = []))) := by
  have restarted : (itemBit itemRestarted).getLsbD n = true ↔ n = 31 := by
    rw [itemBit_getLsbD, Fin.ext_iff]
    rfl
  have faulted : (itemBit itemProfileFault).getLsbD n = true ↔ n = 26 := by
    rw [itemBit_getLsbD, Fin.ext_iff]
    rfl
  cases fault with
  | false =>
    have events : (x.restartStatus false).sts.events =
        (x.sts.events ||| itemBit itemRestarted) ||| (x.conditionsNow &&& ~~~x.conditionsNow) := rfl
    have risen : x.conditionsNow &&& ~~~x.conditionsNow = 0#32 := BitVec.and_not_self _
    rw [events, risen, BitVec.or_zero, BitVec.getLsbD_or, Bool.or_eq_true, restarted]
    simp
  | true =>
    let y := State.profileFault (State.pulse { x with sts := { x.sts with conditions := x.conditionsNow } } itemRestarted) 0
    have events : (x.restartStatus true).sts.events =
        ((x.sts.events ||| itemBit itemRestarted) ||| itemBit itemProfileFault) |||
          (y.conditionsNow &&& ~~~x.conditionsNow) := rfl
    have pending := conditionItem_error x (y := y) rfl (pushError_ne_nil _ _) n
    rw [events, BitVec.getLsbD_or, BitVec.getLsbD_or, BitVec.getLsbD_or, BitVec.getLsbD_and, BitVec.getLsbD_not,
      conditionsNow_getLsbD, conditionsNow_getLsbD]
    simp only [Bool.or_eq_true, Bool.and_eq_true, restarted, faulted, n.isLt, decide_true, Bool.true_and,
      Bool.not_eq_true', pending]
    simp [or_assoc]

theorem restartStatus_enable : (x.restartStatus fault).sts.enable = x.sts.enable := by
  cases fault <;> rfl

/-- The condition set is the owners' (R156). -/
theorem restartStatus_conditions (n : Fin 32) :
    (x.restartStatus fault).sts.conditions.getLsbD n = (x.restartStatus fault).conditionItem n := by
  unfold State.restartStatus
  rw [settle_conditions, ← settle_conditionsNow, conditionsNow_getLsbD]

theorem restartStatus_attn : (x.restartStatus fault).sts.attn = true ↔
    ∃ n : Fin 32, (x.restartStatus fault).sts.events.getLsbD n = true ∧ (x.restartStatus fault).sts.enable.getLsbD n = true :=
  attnOf_true_iff _ _

theorem restartStatus_settled : (x.restartStatus fault).settle = x.restartStatus fault := settle_settle _

theorem restartStatus_eq : x.restartStatus fault =
    { x with sts := (x.restartStatus fault).sts, link := (x.restartStatus fault).link } := by
  cases fault <;> rfl

end

end Sys2Proof.Machine
end

section
/-! A reset, whatever brings it, and the state that it leaves (R165, R173, R178). -/

namespace Sys2Proof.Machine

/-! ### The two resets start from the state with their own part of it reset (R165) -/

/-- What a power-on reset starts the blocks from: an empty status unit, no picture on the monitor (R165, assumption 24). -/
def State.coldStart (s : State) (rate : Fin 4) : State :=
  { s with
    prf := s.prf.started
    powered := true
    clock := 0
    disp := { s.disp with sending := .nothing, shown := none }
    sts := ⟨0, 0, s.prf.startChoice.1.enableMask, false, []⟩
    link := ⟨rate, huntReceiver, none, false, .idle, 0, zeroLinkCounters⟩ }

/-- What a soft reset starts the blocks from (R165, R178). -/
def State.warmStart (s : State) : State :=
  { s with
    prf := s.prf.started
    link := { s.link with rx := huntReceiver, owed := none, tx := .idle, counters := zeroLinkCounters } }

/-- The blocks, then the status unit, restart from `b` with what slot 0 of the store `z` gives (R165, R166). -/
def State.started (b : State) (z : ProfileStore) : State :=
  (b.restartBlocks z.startChoice.1).restartStatus z.startChoice.2.2

section
variable (s : State)

theorem cutSave_started :
    (if (startConfiguration s.cutSave.prf.slots[0]).2.1 then s.cutSave.putProfile 0 .invalid else s.cutSave) =
      { s with prf := s.prf.started } := by
  rw [cutSave_eq]
  unfold ProfileStore.started ProfileStore.startChoice
  split <;> rfl

theorem powerOn_eq (rate : Fin 4) : s.powerOn rate = (s.coldStart rate).started s.prf := by
  unfold State.powerOn
  dsimp only
  rw [cutSave_started, cutSave_eq]
  rfl

theorem softReset_eq : s.softReset = s.warmStart.started s.prf := by
  unfold State.softReset
  dsimp only
  rw [cutSave_started, cutSave_eq]
  rfl

end

/-- `t` is `s` after a reset that starts from `b`, which has the cameras, wired inputs and the store of `s` (R165, R166): the blocks
restart with what slot 0 gives, the status unit reports it, and the link port is at rest. -/
structure State.ResetFrom (s t b : State) : Prop where
  cams : b.cams = s.cams
  sig : b.sig = s.sig
  prf : b.prf = s.prf.started
  whole : t = { b.started s.prf with link := t.link }
  owed : t.link.owed = none
  tx : t.link.tx = .idle

/-- What a soft reset keeps of the part (R116, R166): power, enable mask, events, and the picture on the monitor. -/
structure State.SoftlyFrom (s b : State) : Prop where
  powered : b.powered = s.powered
  enable : b.sts.enable = s.sts.enable
  events : ∀ n, s.sts.events.getLsbD n = true → b.sts.events.getLsbD n = true
  screen : b.screen = s.screen

section
variable {s t : State}

theorem powerOn_resetFrom (rate : Fin 4) : s.ResetFrom (s.powerOn rate) (s.coldStart rate) := by
  rw [powerOn_eq]
  refine ⟨rfl, rfl, rfl, rfl, ?_, ?_⟩ <;>
  · unfold State.started
    rw [restartStatus_link]
    rfl

/-- A soft reset, of `s` or of what an event has left of it beside its status unit and link port. -/
theorem softReset_resetFrom {u : State} (hu : u = { s with sts := u.sts, link := u.link })
    (enable : u.sts.enable = s.sts.enable) (events : ∀ n, s.sts.events.getLsbD n = true → u.sts.events.getLsbD n = true)
    (ht : t = { u.softReset with link := t.link }) (owed : t.link.owed = none) (tx : t.link.tx = .idle) :
    ∃ b, s.ResetFrom t b ∧ s.SoftlyFrom b := by
  have prf : u.prf = s.prf := by rw [hu]
  refine ⟨u.warmStart, ⟨?_, ?_, ?_, ?_, owed, tx⟩, ?_, enable, events, ?_⟩
  · show u.cams = s.cams
    rw [hu]
  · show u.sig = s.sig
    rw [hu]
  · show u.prf.started = s.prf.started
    rw [prf]
  · rw [softReset_eq, prf] at ht
    exact ht
  · show u.powered = s.powered
    rw [hu]
  · show u.screen = s.screen
    rw [hu]
    rfl

/-- The last byte of the owed reply is sent (R171). -/
def State.replySent (s : State) : State :=
  { s with link := { s.link with
      owed := none, tx := .idle, lastStop := s.clock
      counters := { s.link.counters with repliesSent := bump s.link.counters.repliesSent } } }

/-- The COLLISION of an accepted RESET_PART's reply is reported, and the soft reset takes effect (R173, R178). -/
theorem controllerByte_softReset {r : Reply} (ho : s.link.owed = some r) (resets : r.resets = true) :
    ∃ u : State, s.controllerByte = u.softReset ∧ u = { s with sts := u.sts, link := u.link } ∧
      u.sts.enable = s.sts.enable ∧ ∀ n, s.sts.events.getLsbD n = true → u.sts.events.getLsbD n = true := by
  have he : s.link.engaged = true := by simp [LinkPort.engaged, ho]
  let u : State := State.settle (State.queueError { s with link := { s.link with
    owed := none, tx := .idle, rx := huntReceiver
    counters := { s.link.counters with repliesDropped := bump s.link.counters.repliesDropped } } }
    .linkCollision r.type.toNat)
  refine ⟨u, ?_, rfl, rfl, fun n h => settle_keepsEvent h⟩
  rw [controllerByte_engaged he]
  unfold State.collide
  rw [ho]
  dsimp only
  rw [State.afterReply, if_pos resets]

/-- The soft reset of an accepted RESET_PART, at the end of its reply, at a COLLISION or at a second frame (R173, R178). -/
theorem softReset_cases {r : Reply} (hp : s.powered = true) (ho : s.link.owed = some r) (hk : r.type = 0x82#8 ∧ r.code = .ok)
    (ht : (s.link.tx = .reply ∧ exec .replyEnd s = .next t) ∨ (∃ b f, exec (.collision b f) s = .next t) ∨
      t = s.frameArrives) : ∃ b, s.ResetFrom t b ∧ s.SoftlyFrom b := by
  have resets : r.resets = true := (resets_iff r).2 hk
  have settled (u : State) : u.softReset.settle = u.softReset := by
    rw [softReset_eq]
    exact restartStatus_settled _ _
  obtain ⟨tx, e⟩ | ⟨b, f, e⟩ | e := ht
  · have sent : exec .replyEnd s = .next s.replySent.softReset := by
      rw [exec_replyEnd hp ho tx, State.afterReply, if_pos resets]
      exact congrArg Host.Outcome.next (settled _)
    rw [sent] at e
    obtain rfl := Host.Outcome.next.inj e
    obtain ⟨owed, idle, -⟩ := softReset_rest s.replySent
    exact softReset_resetFrom (u := s.replySent) rfl rfl (fun _ h => h) rfl owed idle
  · obtain ⟨u, hu, rest, enable, events⟩ := controllerByte_softReset ho resets
    have engaged : s.link.engaged = true := by simp [LinkPort.engaged, ho]
    have taken : exec (.collision b f) s = .next (s.receiveByte b f).1.settle := by
      show execCollision b f s = _
      exact event_occurs _ hp engaged
    rw [taken, State.receiveByte] at e
    obtain rfl := Host.Outcome.next.inj e
    obtain ⟨owed, idle, -⟩ := softReset_rest u
    rw [hu]
    dsimp only
    rw [← settled u, settle_receiver, settled]
    exact softReset_resetFrom rest enable events rfl owed idle
  · subst e
    obtain ⟨u, hu, rest, enable, events⟩ := controllerByte_softReset ho resets
    obtain ⟨owed, idle, -⟩ := softReset_rest u
    rw [frameArrives_eq, hu, softReset_awake]
    exact softReset_resetFrom rest enable events rfl owed idle

end

end Sys2Proof.Machine
end

section
/-! What every block holds after a reset: the statement of ResetLeavesEveryBlock, block by block. -/

namespace Sys2Proof.Machine

section
variable {s t b : State}

/-- The configuration that the part starts from (R165). -/
def State.startProfile (s : State) : Profile := s.prf.startChoice.1

/-- A PROFILE_FAULT is given at the start (R165). -/
def State.startFault (s : State) : Bool := s.prf.startChoice.2.2

theorem resetFrom_blocks (h : s.ResetFrom t b) : t = { b.restartBlocks s.startProfile with sts := t.sts, link := t.link } := by
  have whole := h.whole
  rw [State.started, restartStatus_eq] at whole
  have sts := congrArg State.sts whole
  rw [sts]
  exact whole

theorem resetFrom_sts (h : s.ResetFrom t b) :
    t.sts = ((b.restartBlocks s.startProfile).restartStatus s.startFault).sts := (congrArg State.sts h.whole :)

/-! ### Cameras, meshes, selection (R20, R72, R155) -/

theorem resetFrom_cam (h : s.ResetFrom t b) (i : Fin 4) :
    t.cams[i] = (s.cams[i]).restart s.startProfile.ports[i] s.startProfile.meters[i] t.clock := by
  have clock : t.clock = b.clock := (congrArg State.clock (resetFrom_blocks h) :)
  have cams : t.cams = (b.restartBlocks s.startProfile).cams := (congrArg State.cams (resetFrom_blocks h) :)
  rw [cams, clock, restartBlocks_cam, h.cams]

theorem resetFrom_mesh (h : s.ResetFrom t b) : t.mesh = (b.restartBlocks s.startProfile).mesh :=
  (congrArg State.mesh (resetFrom_blocks h) :)

theorem resetFrom_sig (h : s.ResetFrom t b) : t.sig = (b.restartBlocks s.startProfile).sig :=
  (congrArg State.sig (resetFrom_blocks h) :)

theorem resetFrom_sel (h : s.ResetFrom t b) : t.sel = (b.restartBlocks s.startProfile).sel :=
  (congrArg State.sel (resetFrom_blocks h) :)

theorem resetFrom_entry (h : s.ResetFrom t b) (i : Fin 16) : t.sel.entries[i] = (s.startProfile.table[i]).map fun c =>
    ⟨c, if EntryConfig.termsHold c t.sig.values then .held else .idle⟩ := by
  rw [resetFrom_sel h, resetFrom_sig h, restartBlocks_entry]

theorem resetFrom_entries (h : s.ResetFrom t b) (i : Fin 16) :
    (t.sel.entries[i]).map Entry.config = s.startProfile.table[i] ∧ ∀ e, t.sel.entries[i] = some e →
      e.state = if EntryConfig.termsHold e.config t.sig.values then .held else .idle := by
  rw [resetFrom_entry h]
  cases s.startProfile.table[i] with
  | none => exact ⟨rfl, nofun⟩
  | some c =>
    refine ⟨rfl, fun e he => ?_⟩
    obtain rfl := Option.some.inj he
    rfl

/-! ### Display output (R116, R125) -/

theorem resetFrom_disp (h : s.ResetFrom t b) :
    t.disp = restartedDisplay s.startProfile.outputEnable s.startProfile.timing t.clock b.screen := by
  have clock : t.clock = b.clock := (congrArg State.clock (resetFrom_blocks h) :)
  rw [clock]
  exact (congrArg State.disp (resetFrom_blocks h) :)

theorem restartedDisplay_common (on : Bool) (timing : Timing) (now : Nat) (shown : Option Screen) :
    let d := restartedDisplay on timing now shown
    d.enable = on ∧ d.current = timing ∧ d.staged = none ∧ d.holdPending = false ∧ d.holdTimer = none ∧
      d.framesShown = 0 ∧ d.framesRepeated = 0 := by
  cases on <;> exact ⟨rfl, rfl, rfl, rfl, rfl, rfl, rfl⟩

/-- In OFF the monitor shows the picture that the reset found there (R116). -/
theorem resetFrom_shown (h : s.ResetFrom t b) (off : s.startProfile.outputEnable = false) : t.disp.shown = b.screen := by
  rw [resetFrom_disp h, off]
  rfl

theorem resetFrom_pixel (h : s.ResetFrom t b) (soft : s.SoftlyFrom b) (off : s.startProfile.outputEnable = false) (X Y : Nat) :
    t.displayPixel X Y = s.displayPixel X Y := by
  have powered : t.powered = b.powered := (congrArg State.powered (resetFrom_blocks h) :)
  have nothing : t.disp.sending = .nothing := by
    rw [resetFrom_disp h, off]
    rfl
  exact displayPixel_congr (powered.trans soft.powered)
    ((screen_off nothing).trans ((resetFrom_shown h off).trans soft.screen)) X Y

/-! ### Signal unit (R129, R132, R140) -/

theorem resetFrom_wire (h : s.ResetFrom t b) (n : Fin 6) : t.sig.wires[n].raw = s.sig.wires[n].raw ∧
    t.sig.wires[n].accepted = s.sig.wires[n].raw ∧ t.sig.wires[n].timer = none := by
  rw [resetFrom_sig h, restartBlocks_wire, h.sig]
  exact ⟨rfl, rfl, rfl⟩

/-! ### Status unit (R156, R166) -/

theorem resetFrom_condition (h : s.ResetFrom t b) (n : Fin 32) : t.sts.conditions.getLsbD n = t.conditionItem n := by
  rw [resetFrom_sts h, restartStatus_conditions]
  exact (congrArg (State.conditionItem · n) h.whole).symm

theorem resetFrom_attn (h : s.ResetFrom t b) :
    t.sts.attn = true ↔ ∃ n : Fin 32, t.sts.events.getLsbD n = true ∧ t.sts.enable.getLsbD n = true := by
  rw [resetFrom_sts h]
  exact restartStatus_attn _ _

theorem resetFrom_enable (h : s.ResetFrom t b) : t.sts.enable = b.sts.enable := by
  rw [resetFrom_sts h, restartStatus_enable]
  rfl

theorem resetFrom_events (h : s.ResetFrom t b) (n : Fin 32) : t.sts.events.getLsbD n = true ↔
    b.sts.events.getLsbD n = true ∨ n = 31 ∨ (s.startFault = true ∧ (n = 26 ∨ (n = 29 ∧ b.sts.errors = []))) := by
  rw [resetFrom_sts h, restartStatus_events]
  rfl

/-- After a power-on reset only its own events are latched (R166). -/
theorem powerOn_events {rate : Fin 4} (h : s.ResetFrom t (s.coldStart rate)) (n : Fin 32) :
    t.sts.events.getLsbD n = true ↔ n = 31 ∨ (s.startFault = true ∧ (n = 26 ∨ n = 29)) := by
  rw [resetFrom_events h]
  have unlatched : (s.coldStart rate).sts.events.getLsbD n = false := BitVec.getLsbD_zero
  have empty : (s.coldStart rate).sts.errors = [] := rfl
  rw [unlatched, empty]
  simp

/-- After a soft reset the events latched before are kept (R166). -/
theorem softReset_events (h : s.ResetFrom t b) (soft : s.SoftlyFrom b) {n : Nat} (hn : s.sts.events.getLsbD n = true) :
    t.sts.events.getLsbD n = true := by
  have small : n < 32 := BitVec.lt_of_getLsbD hn
  exact (resetFrom_events h ⟨n, small⟩).2 (.inl (soft.events n hn))

/-! ### Profile store (R162, R165) -/

theorem resetFrom_prf (h : s.ResetFrom t b) : t.prf = s.prf.started := by
  have prf : t.prf = b.prf := (congrArg State.prf (resetFrom_blocks h) :)
  rw [prf, h.prf]

theorem resetFrom_saved (h : s.ResetFrom t b) {v : Save} (hv : s.prf.save = some v) : t.prf.slots[v.slot] = .invalid := by
  rw [resetFrom_prf h, started_saved _ hv]

theorem resetFrom_slot (h : s.ResetFrom t b) {n : Fin 4} (h0 : n ≠ 0) (hn : ∀ v, s.prf.save = some v → v.slot ≠ n) :
    t.prf.slots[n] = s.prf.slots[n] := by
  rw [resetFrom_prf h, started_other _ h0, cut_other _ hn]

end

/-- Settles O4: the reset starts from a state that keeps the cameras, the wired inputs and the store, and each block is as
`restartBlocks` and `restartStatus` leave it. -/
theorem resetLeavesEveryBlock : Obligations.ResetLeavesEveryBlock := by
  intro s t r found p power soft corrupt fault reset hfound hp
  have warm (hs : soft) : ∃ b, s.ResetFrom t b ∧ s.SoftlyFrom b := by
    obtain ⟨powered, owed, type, code, brings⟩ := hs
    exact softReset_cases powered owed ⟨type, code⟩ brings
  have cold (hc : power) : ∃ rate, s.ResetFrom t (s.coldStart rate) := by
    obtain ⟨x, y, e⟩ := hc
    obtain rfl := Host.Outcome.next.inj e
    exact ⟨_, powerOn_resetFrom _⟩
  obtain ⟨b, h⟩ : ∃ b, s.ResetFrom t b := by
    rcases reset with hc | hs
    · obtain ⟨rate, h⟩ := cold hc
      exact ⟨_, h⟩
    · obtain ⟨b, h, -⟩ := warm hs
      exact ⟨b, h⟩
  have slot0 : found = s.prf.cut.slots[0] := hfound.trans (cut_slot0 s.prf).symm
  subst slot0
  obtain rfl : p = s.startProfile := hp.trans (startConfiguration_profile _).symm
  have isCorrupt : s.prf.startChoice.2.1 = true ↔ corrupt := startConfiguration_corrupt _
  have isFault : s.startFault = true ↔ fault := startConfiguration_fault _
  have display := restartedDisplay_common s.startProfile.outputEnable s.startProfile.timing t.clock b.screen
  rw [← resetFrom_disp h] at display
  obtain ⟨enable, current, staged, holdPending, holdTimer, framesShown, framesRepeated⟩ := display
  have selection := restartBlocks_choice b s.startProfile
  rw [← resetFrom_sel h] at selection
  obtain ⟨override, defaultView, active, selected, activation⟩ := selection
  have timeBase : b.timeBase = t.timeBase := (congrArg State.timeBase (resetFrom_blocks h) :).symm
  refine ⟨fun i => ?_, fun i => ?_, ?_, ?_, resetFrom_entries h, override, defaultView, active, selected,
    activation.trans timeBase, ?_, enable, current, staged, holdPending, holdTimer, framesShown, framesRepeated,
    fun on => ?_, fun off => ⟨?_, ?_, ?_, ?_, fun hc => ?_, fun hs X Y => ?_⟩, ?_, resetFrom_wire h, ?_, ?_, ?_, ?_,
    fun i => ?_, resetFrom_condition h, fun hc => ?_, fun hs => ?_, resetFrom_attn h, ?_, fun v hv => resetFrom_saved h hv,
    fun n h0 hn => resetFrom_slot h h0 hn, fun hc => ?_, fun hc => ?_, h.owed, h.tx⟩
  · obtain ⟨q, hq, cam⟩ := restart_eq_emptied s.cams[i] s.startProfile.ports[i] s.startProfile.meters[i] t.clock
    exact ⟨q, hq, (resetFrom_cam h i).trans cam⟩
  · rw [resetFrom_mesh h]
    exact restartBlocks_mesh b s.startProfile i
  · rw [resetFrom_mesh h]
    rfl
  · exact (congrArg State.views (resetFrom_blocks h) :)
  · exact (congrArg State.comp (resetFrom_blocks h) :)
  · rw [resetFrom_disp h, on]
    exact ⟨rfl, rfl, rfl, rfl⟩
  · rw [resetFrom_disp h, off]
    rfl
  · rw [resetFrom_disp h, off]
    rfl
  · rw [resetFrom_disp h, off]
    rfl
  · rw [resetFrom_disp h, off]
    rfl
  · obtain ⟨rate, hr⟩ := cold hc
    exact resetFrom_shown hr off
  · obtain ⟨b', hb, softly⟩ := warm hs
    exact resetFrom_pixel hb softly off X Y
  · rw [resetFrom_sig h]
    rfl
  · rw [resetFrom_sig h]
    rfl
  · rw [resetFrom_sig h]
    rfl
  · rw [resetFrom_sig h]
    rfl
  · rw [resetFrom_sig h]
    rfl
  · rw [resetFrom_sig h]
    exact restartBlocks_signal b s.startProfile i
  · obtain ⟨rate, hr⟩ := cold hc
    refine ⟨resetFrom_enable hr, fun n => ?_⟩
    rw [powerOn_events hr, isFault]
  · obtain ⟨b', hb, softly⟩ := warm hs
    refine ⟨(resetFrom_enable hb).trans softly.enable, (resetFrom_events hb 31).2 (.inr (.inl rfl)), fun hf => ?_,
      fun n hn => softReset_events hb softly hn⟩
    exact (resetFrom_events hb 26).2 (.inr (.inr ⟨isFault.2 hf, .inl rfl⟩))
  · rw [resetFrom_prf h, started_save]
  · rw [resetFrom_prf h, started_slot0_corrupt _ (isCorrupt.2 hc)]
  · rw [resetFrom_prf h, started_slot0_kept _ (Bool.eq_false_iff.2 fun e => hc (isCorrupt.1 e))]

end Sys2Proof.Machine
end

section
/-! Loading a profile: what the cameras and the composer's context become (R23, R32, R59, R71, R101). -/

namespace Sys2Proof.Machine

/-! ### The table of R23, case by case -/

section
variable (c : Cam) (config : PortConfig) (meter : MeterItems) (now : Nat)

/-- The camera with the loaded configuration, before its port acts on it (R23, R59). -/
def Cam.configured : Cam :=
  { c with
    port := { c.port with config := config }
    meter := ⟨meter, max meter.gainMin (min c.meter.gain meter.gainMax), 0, []⟩ }

/-- The port works: TRAINING, LOCKED or FAILED (R8). -/
def LinkState.working (l : LinkState) : Prop := l = .training ∨ l = .locked ∨ l = .failed

theorem linkState_cases (l : LinkState) : l = .disabled ∨ l = .down ∨ l.working := by
  unfold LinkState.working
  cases l <;> simp

theorem load_eq : c.load config meter now = match loadAction c.port.link config.enabled with
    | .enable => (c.configured config meter).enable now
    | .stay => if config.enabled then { c.configured config meter with
        port := (c.configured config meter).port.examineCarrier now } else c.configured config meter
    | .retrain => (c.configured config meter).retrain now
    | .disable => (c.configured config meter).disable now := rfl

theorem load_stays (hl : c.port.link = .disabled) (he : config.enabled = false) :
    c.load config meter now = c.configured config meter := by
  rw [load_eq, hl, he]
  rfl

theorem load_enables (hl : c.port.link = .disabled) (he : config.enabled = true) :
    c.load config meter now = { c.configured config meter with
      port := (let q := { (c.configured config meter).port with link := .down }
               if q.carrier then q.sweeping now else q)
      ring := { c.ring with lostTimer := some (now + 300 * config.items.lostLimit) } } := by
  obtain ⟨on, items⟩ := config
  subst he
  rw [load_eq, hl]
  rfl

theorem load_examines (hl : c.port.link = .down) (he : config.enabled = true) :
    c.load config meter now = { c.configured config meter with
      port := if (c.configured config meter).port.carrier then (c.configured config meter).port.sweeping now
        else (c.configured config meter).port } := by
  rw [load_eq, hl, he]
  rfl

theorem load_retrains (hl : c.port.link.working) (he : config.enabled = true) :
    c.load config meter now = (c.configured config meter).retrained now := by
  rw [load_eq, he]
  rcases hl with h | h | h <;> rw [h] <;> rfl

theorem load_disables (hl : c.port.link.working ∨ c.port.link = .down) (he : config.enabled = false) :
    c.load config meter now = Cam.emptied { c.configured config meter with
      port := { (c.configured config meter).port.atRest with link := .disabled } } now false := by
  obtain ⟨on, items⟩ := config
  subst he
  rw [load_eq]
  rcases hl with (h | h | h) | h <;> rw [h] <;> rfl

/-- Every action of R23 leaves the loaded configuration in the port and the metering unit. -/
theorem load_config : (c.load config meter now).port.config = config ∧ (c.load config meter now).meter.config = meter := by
  cases he : config.enabled with
  | false =>
    by_cases hd : c.port.link = .disabled
    · rw [load_stays c config meter now hd he]
      exact ⟨rfl, rfl⟩
    · rw [load_disables c config meter now ((linkState_cases _).resolve_left hd).symm he]
      exact ⟨rfl, rfl⟩
  | true =>
    rcases linkState_cases c.port.link with h | h | h
    · rw [load_enables c config meter now h he]
      refine ⟨?_, rfl⟩
      dsimp only
      split <;> rfl
    · rw [load_examines c config meter now h he]
      refine ⟨?_, rfl⟩
      dsimp only
      split <;> rfl
    · rw [load_retrains c config meter now h he]
      exact ⟨rfl, rfl⟩

/-- The load flushes a working port's ring, and that of a port in DOWN that it disables (R23, R42). -/
theorem loadFlushes_iff (l : LinkState) (on : Bool) :
    loadFlushes l on = true ↔ l = .training ∨ l = .locked ∨ l = .failed ∨ (l = .down ∧ on = false) := by
  cases l <;> cases on <;> simp [loadFlushes, loadAction]

end

/-! ### The four cameras take their parts (R23, R32) -/

/-- A latched camera whose slot is withdrawn after `drawn` pixels; an earlier withdrawal stands (R101). -/
def LatchedCamera.withdrawnBy (l : LatchedCamera) (drawn : Nat) : LatchedCamera :=
  { l with withdrawnAt := if l.withdrawnAt = none then some drawn else l.withdrawnAt }

theorem withdraw_eq (l : LatchedCamera) (drawn : Nat) : l.withdraw drawn = l.withdrawnBy drawn := by
  have later : some (l.withdrawnAt.getD drawn) = if l.withdrawnAt = none then some drawn else l.withdrawnAt := by
    cases l.withdrawnAt <;> rfl
  rw [LatchedCamera.withdraw, later]
  rfl

/-- The load of `p` flushes camera `i`'s ring. -/
def State.flushedBy (s : State) (p : Profile) (i : Fin 4) : Prop :=
  s.cams[i].port.link = .training ∨ s.cams[i].port.link = .locked ∨ s.cams[i].port.link = .failed ∨
    (s.cams[i].port.link = .down ∧ p.ports[i].enabled = false)

/-- What a context becomes when the rings of the cameras in `l` that the load flushes are withdrawn from it (R32, R101). -/
structure SlotsWithdrawn (s : State) (p : Profile) (l : List (Fin 4)) (ctx : Context)
    (refs : Vector (Option (Fin 3)) 4) (latched : Vector (Option LatchedCamera) 4) : Prop where
  kept : ∀ i, i ∉ l ∨ ¬s.flushedBy p i ∨ ctx.slotRefs[i] = none →
    refs[i] = ctx.slotRefs[i] ∧ latched[i] = ctx.frame.cams[i]
  withdrawn : ∀ i ∈ l, s.flushedBy p i → ctx.slotRefs[i] ≠ none →
    refs[i] = none ∧ latched[i] = (ctx.frame.cams[i]).map fun c => c.withdrawnBy ctx.drawn

/-- `t` is `s` after the cameras in `l` have taken their parts of `p` (R23). -/
structure State.CamsLoaded (p : Profile) (l : List (Fin 4)) (s t : State) : Prop where
  rest : t = { s with cams := t.cams, comp := t.comp }
  loaded : ∀ i ∈ l, t.cams[i] = (s.cams[i]).load p.ports[i] p.meters[i] s.clock
  kept : ∀ i ∉ l, t.cams[i] = s.cams[i]
  idle : s.comp.context = none → t.comp = s.comp
  context : ∀ ctx, s.comp.context = some ctx → ∃ refs latched, SlotsWithdrawn s p l ctx refs latched ∧
    t.comp = { s.comp with context := some { ctx with slotRefs := refs, frame := { ctx.frame with cams := latched } } }

section
variable {p : Profile} {s t : State} {l : List (Fin 4)} {i : Fin 4} {ctx : Context}
  {refs : Vector (Option (Fin 3)) 4} {latched : Vector (Option LatchedCamera) 4}

/-- A camera whose ring the load leaves, or whose slot the composer does not use, takes nothing from the context. -/
theorem slotsWithdrawn_cons_kept (w : SlotsWithdrawn s p l ctx refs latched) (hi : i ∉ l)
    (hk : ¬s.flushedBy p i ∨ ctx.slotRefs[i] = none) : SlotsWithdrawn s p (i :: l) ctx refs latched where
  kept := fun j hj => by
    rcases hj with hj | hj
    · exact w.kept j (.inl fun h => hj (List.mem_cons_of_mem _ h))
    · exact w.kept j (.inr hj)
  withdrawn := fun j hj hf hr => by
    rcases List.mem_cons.1 hj with rfl | hj
    · rcases hk with hk | hk
      · exact absurd hf hk
      · exact absurd hk hr
    · exact w.withdrawn j hj hf hr

/-- A flushed camera's slot is withdrawn (R32). -/
theorem slotsWithdrawn_cons_set (w : SlotsWithdrawn s p l ctx refs latched) (hi : i ∉ l) (hf : s.flushedBy p i)
    (hr : ctx.slotRefs[i] ≠ none) : SlotsWithdrawn s p (i :: l) ctx (refs.set i none)
      (latched.set i (latched[i].map fun c => c.withdraw ctx.drawn)) where
  kept := fun j hj => by
    have other : i ≠ j := by
      rintro rfl
      rcases hj with hj | hj | hj
      · exact hj (List.mem_cons_self ..)
      · exact hj hf
      · exact hr hj
    have apart : i.val ≠ j.val := fun h => other (Fin.ext h)
    have before := w.kept j (hj.imp_left fun h hl => h (List.mem_cons_of_mem _ hl))
    exact ⟨(Vector.getElem_set_ne i.isLt j.isLt apart).trans before.1,
      (Vector.getElem_set_ne i.isLt j.isLt apart).trans before.2⟩
  withdrawn := fun j hj hfj hrj => by
    by_cases same : i = j
    · subst same
      refine ⟨Vector.getElem_set_self i.isLt, (Vector.getElem_set_self i.isLt).trans ?_⟩
      rw [(w.kept i (.inl hi)).2]
      simp only [withdraw_eq]
    · have apart : i.val ≠ j.val := fun h => same (Fin.ext h)
      have before := w.withdrawn j ((List.mem_cons.1 hj).resolve_left fun h => same h.symm) hfj hrj
      exact ⟨(Vector.getElem_set_ne i.isLt j.isLt apart).trans before.1,
        (Vector.getElem_set_ne i.isLt j.isLt apart).trans before.2⟩

theorem camsLoaded_nil (p : Profile) (s : State) : s.CamsLoaded p [] s where
  rest := rfl
  loaded := nofun
  kept := fun _ _ => rfl
  idle := fun _ => rfl
  context := fun ctx h => ⟨ctx.slotRefs, ctx.frame.cams, ⟨fun _ _ => ⟨rfl, rfl⟩, nofun⟩, by rw [← h]⟩

theorem loadCam_eq (p : Profile) (s : State) (i : Fin 4) : s.loadCam p i = { s with
    cams := s.cams.set i ((s.cams[i]).load p.ports[i] p.meters[i] s.clock)
    comp := if loadFlushes s.cams[i].port.link p.ports[i].enabled then (s.withdrawSlot i).comp else s.comp } := by
  have slot : s.withdrawSlot i = { s with comp := (s.withdrawSlot i).comp } := by
    unfold State.withdrawSlot
    split
    · rfl
    · split <;> rfl
  have e : s.loadCam p i = (if loadFlushes s.cams[i].port.link p.ports[i].enabled then s.withdrawSlot i else s).setCam i
      ((s.cams[i]).load p.ports[i] p.meters[i] s.clock) := rfl
  rw [e]
  split
  · rw [slot]
    rfl
  · rfl

theorem camsLoaded_cons (h : s.CamsLoaded p l t) (hi : i ∉ l) : s.CamsLoaded p (i :: l) (t.loadCam p i) := by
  have cam : t.cams[i] = s.cams[i] := h.kept i hi
  have clock : t.clock = s.clock := by rw [h.rest]
  have flushes : loadFlushes s.cams[i].port.link p.ports[i].enabled = true ↔ s.flushedBy p i := loadFlushes_iff _ _
  have step : t.loadCam p i = { t with
      cams := t.cams.set i ((s.cams[i]).load p.ports[i] p.meters[i] s.clock)
      comp := if loadFlushes s.cams[i].port.link p.ports[i].enabled then (t.withdrawSlot i).comp else t.comp } := by
    rw [loadCam_eq, cam, clock]
  rw [step]
  refine ⟨?_, fun j hj => ?_, fun j hj => ?_, fun hn => ?_, fun ctx hc => ?_⟩
  · have rest := h.rest
    exact (congrArg (fun x : State => { x with
      cams := t.cams.set i ((s.cams[i]).load p.ports[i] p.meters[i] s.clock)
      comp := if loadFlushes s.cams[i].port.link p.ports[i].enabled then (t.withdrawSlot i).comp else t.comp }) rest :)
  · rcases List.mem_cons.1 hj with rfl | hl
    · exact Vector.getElem_set_self j.isLt
    · have apart : i.val ≠ j.val := fun e => hi (Fin.ext e ▸ hl)
      exact (Vector.getElem_set_ne i.isLt j.isLt apart).trans (h.loaded j hl)
  · have apart : i.val ≠ j.val := fun e => hj (Fin.ext e ▸ List.mem_cons_self ..)
    exact (Vector.getElem_set_ne i.isLt j.isLt apart).trans (h.kept j fun hl => hj (List.mem_cons_of_mem _ hl))
  · have idle := h.idle hn
    dsimp only
    rw [withdrawSlot_none t i (by rw [idle, hn]), ite_self, idle]
  · obtain ⟨refs, latched, w, comp⟩ := h.context ctx hc
    have held : t.comp.context = some { ctx with slotRefs := refs, frame := { ctx.frame with cams := latched } } := by
      rw [comp]
    have before := (w.kept i (.inl hi)).1
    dsimp only
    by_cases hf : s.flushedBy p i
    · rw [if_pos (flushes.2 hf), withdrawSlot_comp, withdrawSlot_context t i held, comp]
      dsimp only
      rw [before]
      by_cases hr : ctx.slotRefs[i] = none
      · refine ⟨refs, latched, slotsWithdrawn_cons_kept w hi (.inr hr), ?_⟩
        rw [hr]
        rfl
      · refine ⟨_, _, slotsWithdrawn_cons_set w hi hf hr, ?_⟩
        rw [if_pos (Option.isSome_iff_ne_none.2 hr)]
    · rw [if_neg fun e => hf (flushes.1 e)]
      exact ⟨refs, latched, slotsWithdrawn_cons_kept w hi (.inl hf), comp⟩

end

end Sys2Proof.Machine
end

section
/-! LOAD_PROFILE: its tests, and what every block does with an accepted profile (R126, R155, R164). -/

namespace Sys2Proof.Machine

/-! ### The composer draws on and its meshes are withdrawn (R71, R101) -/

theorem withdrawn_rest (s : State) : s.advanceDrawing.withdrawMeshes = { s with
    comp := s.advanceDrawing.withdrawMeshes.comp, freeCount := s.advanceDrawing.withdrawMeshes.freeCount } := by
  unfold State.withdrawMeshes State.advanceDrawing
  cases h : s.comp.context with
  | none => simp [h]
  | some ctx => rfl

theorem withdrawn_idle {s : State} (h : s.comp.context = none) : s.advanceDrawing.withdrawMeshes = s := by
  rw [advanceDrawing_none s h]
  simp [State.withdrawMeshes, h]

theorem withdrawn_context {s : State} {ctx : Context} (h : s.comp.context = some ctx) :
    s.advanceDrawing.withdrawMeshes.freeCount = s.freeCount + 1 ∧ ∃ n, ctx.drawn ≤ n ∧
    s.advanceDrawing.withdrawMeshes.comp = { s.comp with context := some { ctx with
      drawn := n, isLatchedView := false
      frame := { ctx.frame with
        meshWithdrawnAt := if ctx.frame.meshWithdrawnAt = none then some n else ctx.frame.meshWithdrawnAt } } } := by
  obtain ⟨n, hn, context⟩ := advanceDrawing_context s h
  have first : some (ctx.frame.meshWithdrawnAt.getD n) =
      if ctx.frame.meshWithdrawnAt = none then some n else ctx.frame.meshWithdrawnAt := by
    cases ctx.frame.meshWithdrawnAt <;> rfl
  refine ⟨?_, n, hn, ?_⟩
  · rw [State.withdrawMeshes_freeCount]
    simp [State.advanceDrawing, h]
  · have drawn : s.advanceDrawing.withdrawMeshes.comp = { s.advanceDrawing.comp with context := some { ctx with
        drawn := n, isLatchedView := false
        frame := { ctx.frame with meshWithdrawnAt := some (ctx.frame.meshWithdrawnAt.getD n) } } } := by
      simp only [State.withdrawMeshes, context]
    rw [drawn, advanceDrawing_comp, first]

/-! ### The composer and the cameras (R23, R32) -/

/-- The composer's withdrawals and the cameras' part of a load (R164). -/
def State.camerasLoaded (s : State) (p : Profile) : State :=
  (((s.advanceDrawing.withdrawMeshes.loadCam p 0).loadCam p 1).loadCam p 2).loadCam p 3

section
variable (s : State) (p : Profile)

theorem camerasLoaded_all : s.advanceDrawing.withdrawMeshes.CamsLoaded p [3, 2, 1, 0] (s.camerasLoaded p) :=
  camsLoaded_cons (camsLoaded_cons (camsLoaded_cons (camsLoaded_cons (camsLoaded_nil p _) (by decide)) (by decide))
    (by decide)) (by decide)

theorem camerasLoaded_rest : s.camerasLoaded p = { s with
    cams := (s.camerasLoaded p).cams, comp := (s.camerasLoaded p).comp, freeCount := (s.camerasLoaded p).freeCount } := by
  have rest := (camerasLoaded_all s p).rest
  have free : (s.camerasLoaded p).freeCount = s.advanceDrawing.withdrawMeshes.freeCount := by rw [rest]
  rw [free]
  refine rest.trans ?_
  exact (congrArg (fun u : State => { u with cams := (s.camerasLoaded p).cams, comp := (s.camerasLoaded p).comp })
    (withdrawn_rest s) :)

theorem camerasLoaded_cam (i : Fin 4) :
    (s.camerasLoaded p).cams[i] = (s.cams[i]).load p.ports[i] p.meters[i] s.clock := by
  have cam := (camerasLoaded_all s p).loaded i (by fin_cases i <;> decide)
  rw [withdrawn_rest s] at cam
  exact cam

theorem camerasLoaded_idle (h : s.comp.context = none) :
    (s.camerasLoaded p).comp = s.comp ∧ (s.camerasLoaded p).freeCount = s.freeCount := by
  have all := camerasLoaded_all s p
  rw [withdrawn_idle h] at all
  refine ⟨all.idle h, ?_⟩
  rw [all.rest]

theorem camerasLoaded_context {ctx : Context} (h : s.comp.context = some ctx) :
    (s.camerasLoaded p).freeCount = s.freeCount + 1 ∧
    ∃ (drawn : Nat) (refs : Vector (Option (Fin 3)) 4) (latched : Vector (Option LatchedCamera) 4), ctx.drawn ≤ drawn ∧
    (s.camerasLoaded p).comp = { s.comp with context := some { ctx with
      drawn := drawn, isLatchedView := false, slotRefs := refs
      frame := { ctx.frame with
        cams := latched
        meshWithdrawnAt := if ctx.frame.meshWithdrawnAt = none then some drawn else ctx.frame.meshWithdrawnAt } } } ∧
    ∀ i : Fin 4,
      (¬s.flushedBy p i ∨ ctx.slotRefs[i] = none → refs[i] = ctx.slotRefs[i] ∧ latched[i] = ctx.frame.cams[i]) ∧
      (s.flushedBy p i → ctx.slotRefs[i] ≠ none →
        refs[i] = none ∧ latched[i] = (ctx.frame.cams[i]).map fun l => l.withdrawnBy drawn) := by
  have all := camerasLoaded_all s p
  obtain ⟨free, drawn, more, comp⟩ := withdrawn_context h
  have start := withdrawn_rest s
  generalize s.advanceDrawing.withdrawMeshes = u at all free comp start
  obtain ⟨refs, latched, w, loaded⟩ := all.context _ (by rw [comp])
  have cams : u.cams = s.cams := by rw [start]
  have flushed (i : Fin 4) : u.flushedBy p i ↔ s.flushedBy p i := by
    unfold State.flushedBy
    rw [cams]
  refine ⟨?_, drawn, refs, latched, more, ?_, fun i => ⟨fun hk => ?_, fun hf hr => ?_⟩⟩
  · rw [all.rest]
    exact free
  · rw [loaded, comp]
  · exact w.kept i (.inr (hk.imp_left fun hn hf => hn ((flushed i).1 hf)))
  · exact w.withdrawn i (by fin_cases i <;> decide) ((flushed i).2 hf) hr

end

/-! ### The whole load (R164) -/

section
variable (s : State) (p : Profile)

/-- The signal unit with the profile's configuration (R140). -/
def State.sigLoaded (s : State) (p : Profile) : SignalUnit := s.sig.configure p.signals s.clock

/-- The selector with the profile's table, judged once (R147, R155). -/
def State.selLoaded (s : State) (p : Profile) : Selector :=
  ((s.sel.load p.table p.defaultView).judge (s.sigLoaded p).values s.timeBase s.clock).choose s.timeBase

/-- The display output after the load, before the moving signal reaches it (R126). -/
def State.dispLoaded (s : State) (p : Profile) : Display := s.disp.load p.outputEnable p.timing s.clock s.screen

/-- The load after the composer and the cameras have done their part. -/
theorem loadProfile_blocks : s.loadProfile p =
    (let u := s.camerasLoaded p
     let sig := u.sig.configure p.signals u.clock
     let disp := u.disp.load p.outputEnable p.timing u.clock s.screen
     { u with
      mesh := loadedMeshes p.meshes
      views := p.views
      sig := sig
      sel := ((u.sel.load p.table p.defaultView).judge sig.values u.timeBase u.clock).choose u.timeBase
      disp := if !s.sig.movingValue && sig.movingValue then disp.onMoving u.clock else disp
      sts := { u.sts with enable := p.enableMask } }) := by
  unfold State.loadProfile
  have cams : (((s.advanceDrawing.withdrawMeshes.loadCam p 0).loadCam p 1).loadCam p 2).loadCam p 3 = s.camerasLoaded p := rfl
  dsimp only
  rw [cams]
  generalize s.camerasLoaded p = u
  unfold State.loadSelector State.reevaluate
  rfl

theorem loadProfile_eq (h : s.sig.movingValue = false) : s.loadProfile p = { s with
    cams := (s.camerasLoaded p).cams
    comp := (s.camerasLoaded p).comp
    freeCount := (s.camerasLoaded p).freeCount
    mesh := loadedMeshes p.meshes
    views := p.views
    sig := s.sigLoaded p
    sel := s.selLoaded p
    disp := if (s.sigLoaded p).movingValue then (s.dispLoaded p).onMoving s.clock else s.dispLoaded p
    sts := { s.sts with enable := p.enableMask } } := by
  have rest := camerasLoaded_rest s p
  rw [loadProfile_blocks, h]
  generalize s.camerasLoaded p = u at rest ⊢
  generalize u.cams = cams at rest ⊢
  generalize u.comp = comp at rest ⊢
  generalize u.freeCount = freeCount at rest ⊢
  subst rest
  rfl

end

end Sys2Proof.Machine
end

section
/-! LOAD_PROFILE settled: the display output and the selector after a load, the snapshot, and the tests (R126, R155, R162, R164). -/

namespace Sys2Proof.Machine

/-! ### The display output (R126) -/

section
variable (d : Display) (on : Bool) (L : Timing) (now : Nat) (shown : Option Screen)

/-- The output with the profile's output enable, nothing staged and no hold pending (R126). -/
def Display.base : Display := { d with enable := on, holdPending := false, staged := none }

/-- The output that enters STARTING at the profile's timing (R126). -/
def Display.restarting : Display :=
  { d.base on with
    state := .starting, current := L, settleTimer := some (now + 300 * 200), holdTimer := none
    nextStart := some (now + 5000), sending := .black, heldPicture := none }

/-- The output that enters OFF at the profile's timing (R116, R126). -/
def Display.switchedOff : Display :=
  { d.base on with
    state := .off, current := L, settleTimer := none, holdTimer := none, nextStart := none
    sending := .nothing, shown := shown }

/-- The table of R126. -/
theorem display_load_eq : d.load on L now shown =
    (let stagedL := if L = d.current then none else some L
     match d.state, on with
     | .off, true => d.restarting on L now
     | .off, false => { d.base on with current := L }
     | .starting, true => if L = d.current then d.base on else d.restarting on L now
     | .starting, false => d.switchedOff on L shown
     | .running, true => if L = d.current then d.base on
       else { d.base on with state := .stopping, stopToStarting := true, staged := some L }
     | .running, false => { d.base on with state := .stopping, stopToStarting := false, staged := stagedL }
     | .hold, true => if L = d.current then d.base on else d.restarting on L now
     | .hold, false => d.switchedOff on L shown
     | .stopping, toStarting => { d.base on with stopToStarting := toStarting, staged := stagedL }) := by
  obtain ⟨state, _, current⟩ := d
  unfold Display.load
  by_cases h : L = current
  · have same : decide (L ≠ current) = false := by simp [h]
    simp only [if_pos h, same]
    cases state <;> cases on <;> rfl
  · have differs : decide (L ≠ current) = true := by simp [h]
    simp only [if_neg h, differs]
    cases state <;> cases on <;> rfl

/-- Whatever the load does with the timing, it is the one that a snapshot then holds (R162). -/
theorem load_savedTiming : (d.load on L now shown).savedTiming = L := by
  rw [display_load_eq]
  by_cases h : L = d.current
  · subst h
    cases d.state <;> cases on <;> simp [Display.savedTiming, Display.base, Display.restarting, Display.switchedOff]
  · cases d.state <;> cases on <;>
      simp [Display.savedTiming, Display.base, Display.restarting, Display.switchedOff, h]

/-- The moving signal leaves a kept HOLD for RUNNING (R122); no other timing is staged there. -/
theorem load_onMoving_hold (h : (d.load on L now shown).state = .hold) :
    (d.load on L now shown).onMoving now = { d.load on L now shown with state := .running, holdTimer := none } := by
  obtain ⟨-, -, staged⟩ := load_holdPending d on L now shown
  have unstaged := staged (by rw [h]; nofun)
  generalize d.load on L now shown = e at h unstaged
  have left := leaveHold_running e now fun z hz => by
    rw [unstaged] at hz
    cases hz
  rw [onMoving_hold _ _ h, left, ← unstaged]

/-- The moving signal changes nothing else, for no hold is pending (R120). -/
theorem load_onMoving_other (h : (d.load on L now shown).state ≠ .hold) :
    (d.load on L now shown).onMoving now = d.load on L now shown := by
  obtain ⟨pending, -, -⟩ := load_holdPending d on L now shown
  generalize d.load on L now shown = e at h pending
  cases hs : e.state with
  | hold => exact absurd hs h
  | running => rw [onMoving_running _ _ hs, ← pending]
  | off => exact onMoving_other _ _ (.inl hs)
  | starting => exact onMoving_other _ _ (.inr (.inl hs))
  | stopping => exact onMoving_other _ _ (.inr (.inr hs))

end

/-! ### The selector (R142, R147, R155) -/

section
variable (s : State) (p : Profile)

theorem selLoaded_entry (i : Fin 16) : (s.selLoaded p).entries[i] = (p.table[i]).map fun c =>
    ⟨c, if EntryConfig.termsHold c (s.sigLoaded p).values then .held else .idle⟩ := by
  have loaded : (s.sel.load p.table p.defaultView).entries[i] = (p.table[i]).map idleEntry := mapTable_get _ _ i.val i.isLt
  rw [State.selLoaded, choose_entries, selector_judge_entry, loaded, Option.map_map]
  rfl

theorem selLoaded_choice : (s.selLoaded p).override = none ∧ (s.selLoaded p).active = (s.selLoaded p).choice ∧
    (s.selLoaded p).selected = (s.selLoaded p).viewOf (s.selLoaded p).active ∧
    (s.selLoaded p).activation =
      if (s.selLoaded p).active = s.sel.active then s.sel.activation else s.timeBase := by
  unfold State.selLoaded
  refine ⟨rfl, ?_, ?_, ?_⟩
  · rw [choose_active, choose_choice]
  · rw [choose_selected, choose_active, choose_viewOf]
  · rw [choose_activation, choose_active]
    rfl

end

/-! ### The snapshot (R162) -/

section
variable (s : State) (p : Profile)

theorem mapTable_eq {α β : Type} {n : Nat} {f : α → β} {v : Vector α n} {w : Vector β n}
    (h : ∀ i : Fin n, f v[i] = w[i]) : mapTable f v = w :=
  Vector.ext fun i hi => (mapTable_get f v i hi).trans (h ⟨i, hi⟩)

theorem loadedMeshes_saved : mapTable MeshSlot.saved (loadedMeshes p.meshes).slots = p.meshes := by
  refine mapTable_eq fun i => ?_
  have slot : (loadedMeshes p.meshes).slots[i] = meshSlotOf p.meshes[i] := mapTable_get _ _ i.val i.isLt
  rw [slot]
  cases p.meshes[i] <;> rfl

theorem selLoaded_table : mapTable (Option.map Entry.config) (s.selLoaded p).entries = p.table := by
  refine mapTable_eq fun i => ?_
  rw [selLoaded_entry, Option.map_map]
  cases p.table[i] <;> rfl

theorem camerasLoaded_configs :
    mapTable (fun c => c.port.config) (s.camerasLoaded p).cams = p.ports ∧
    mapTable (fun c => c.meter.config) (s.camerasLoaded p).cams = p.meters := by
  refine ⟨mapTable_eq fun i => ?_, mapTable_eq fun i => ?_⟩
  · rw [camerasLoaded_cam]
    exact (load_config _ _ _ _).1
  · rw [camerasLoaded_cam]
    exact (load_config _ _ _ _).2

/-- The output after the load and what the moving signal does to it (R126, R135). -/
theorem loadProfile_disp (h : s.sig.movingValue = false) : (s.loadProfile p).disp =
    if (s.sigLoaded p).movingValue = true ∧ (s.dispLoaded p).state = .hold then
      { s.dispLoaded p with state := .running, holdTimer := none }
    else s.dispLoaded p := by
  rw [loadProfile_eq s p h]
  dsimp only
  cases (s.sigLoaded p).movingValue with
  | false => simp
  | true =>
    by_cases hold : (s.dispLoaded p).state = .hold
    · rw [if_pos rfl, if_pos ⟨rfl, hold⟩]
      exact load_onMoving_hold _ _ _ _ _ hold
    · rw [if_pos rfl, if_neg fun e => hold e.2]
      exact load_onMoving_other _ _ _ _ _ hold

/-- A snapshot taken after the load is the loaded profile (R162). -/
theorem loadProfile_snapshot (h : s.sig.movingValue = false) : (s.loadProfile p).snapshot = p := by
  obtain ⟨ports, meters⟩ := camerasLoaded_configs s p
  obtain ⟨-, enable, -⟩ := load_holdPending s.disp p.outputEnable p.timing s.clock s.screen
  have timing := load_savedTiming s.disp p.outputEnable p.timing s.clock s.screen
  have disp : (s.loadProfile p).disp.enable = p.outputEnable ∧ (s.loadProfile p).disp.savedTiming = p.timing := by
    rw [loadProfile_disp s p h]
    split <;> exact ⟨enable, timing⟩
  rw [loadProfile_eq s p h] at disp ⊢
  obtain ⟨enable, timing⟩ := disp
  have snapshot (t : State) : t.snapshot = ⟨mapTable (fun c => c.port.config) t.cams, mapTable (fun c => c.meter.config) t.cams,
    mapTable MeshSlot.saved t.mesh.slots, t.views, mapTable (Option.map Entry.config) t.sel.entries, t.sel.defaultView,
    t.sig.config, t.disp.enable, t.disp.savedTiming, t.sts.enable⟩ := rfl
  rw [snapshot, enable, timing]
  dsimp only
  rw [ports, meters, loadedMeshes_saved, selLoaded_table]
  rfl

end

/-! ### The tests of LOAD_PROFILE (R164) -/

section
variable {s : State} {n : Fin 4} {p : Profile} {check : BitVec 16}

theorem answerLoadProfile_above {slot : Nat} (h : 3 < slot) : answerLoadProfile slot s = refuse s .badValue := by
  rw [answerLoadProfile, asIndex_none h]

theorem answerLoadProfile_busy (h : s.prf.save ≠ none) : answerLoadProfile n.val s = refuse s .busy := by
  rw [answerLoadProfile, asIndex_val]
  exact if_pos (Option.isSome_iff_ne_none.2 h)

theorem answerLoadProfile_notFound (h : s.prf.save = none) (hn : ∀ p check, s.prf.slots[n] ≠ .valid p check) :
    answerLoadProfile n.val s = refuse s .notFound := by
  rw [answerLoadProfile, asIndex_val]
  dsimp only
  rw [h]
  cases hx : s.prf.slots[n] with
  | valid p check => exact absurd hx (hn p check)
  | invalid => rfl
  | empty => rfl

theorem answerLoadProfile_valid (h : s.prf.save = none) (hn : s.prf.slots[n] = .valid p check) :
    answerLoadProfile n.val s =
      if !checkPasses p check then ⟨(s.putProfile n .invalid).profileFault n, .notFound, .nothing⟩
      else if s.sig.movingValue then refuse s .notWhileMoving
      else accept (s.loadProfile p) .nothing := by
  rw [answerLoadProfile, asIndex_val]
  dsimp only
  rw [h, hn]
  rfl

end

end Sys2Proof.Machine
end

section
/-! LOAD_PROFILE settled (R164). -/

namespace Sys2Proof.Machine

theorem checkPasses_iff (p : Profile) (check : BitVec 16) : checkPasses p check = true ↔ Config.profileCheck p = check := by
  simp [checkPasses]

section
variable {s : State} {n : Fin 4} {p : Profile} {check : BitVec 16}

theorem answerLoadProfile_corrupt (hs : s.prf.save = none) (hx : s.prf.slots[n] = .valid p check)
    (hc : Config.profileCheck p ≠ check) :
    answerLoadProfile n.val s = ⟨(s.putProfile n .invalid).profileFault n, .notFound, .nothing⟩ := by
  rw [answerLoadProfile_valid hs hx, if_pos]
  rw [Bool.not_eq_true', Bool.eq_false_iff]
  exact fun e => hc ((checkPasses_iff p check).1 e)

theorem answerLoadProfile_moving (hs : s.prf.save = none) (hx : s.prf.slots[n] = .valid p check)
    (hc : Config.profileCheck p = check) (hm : s.sig.movingValue = true) :
    answerLoadProfile n.val s = refuse s .notWhileMoving := by
  rw [answerLoadProfile_valid hs hx, (checkPasses_iff p check).2 hc, hm]
  rfl

theorem answerLoadProfile_loads (hs : s.prf.save = none) (hx : s.prf.slots[n] = .valid p check)
    (hc : Config.profileCheck p = check) (hm : s.sig.movingValue = false) :
    answerLoadProfile n.val s = accept (s.loadProfile p) .nothing := by
  rw [answerLoadProfile_valid hs hx, (checkPasses_iff p check).2 hc, hm]
  rfl

/-! ### An accepted load, block by block -/

variable (h : s.sig.movingValue = false)
include h

theorem loadProfile_cam (i : Fin 4) :
    (s.loadProfile p).cams[i] = (s.cams[i]).load p.ports[i] p.meters[i] s.clock := by
  rw [loadProfile_eq s p h]
  exact camerasLoaded_cam s p i

theorem loadProfile_comp : (s.loadProfile p).comp = (s.camerasLoaded p).comp ∧
    (s.loadProfile p).freeCount = (s.camerasLoaded p).freeCount := by
  rw [loadProfile_eq s p h]
  exact ⟨by dsimp only, by dsimp only⟩

theorem loadProfile_sel : (s.loadProfile p).sel = s.selLoaded p := by
  rw [loadProfile_eq s p h]

theorem loadProfile_sig : (s.loadProfile p).sig = s.sigLoaded p := by
  rw [loadProfile_eq s p h]

theorem loadProfile_entries (i : Fin 16) (e : Entry) (he : (s.loadProfile p).sel.entries[i] = some e) :
    e.state = if EntryConfig.termsHold e.config (s.loadProfile p).sig.values then .held else .idle := by
  rw [loadProfile_sel h, selLoaded_entry, Option.map_eq_some_iff] at he
  obtain ⟨c, -, rfl⟩ := he
  rw [loadProfile_sig h]

/-- After the load there is no latched view (R79). -/
theorem loadProfile_latchedView : (s.loadProfile p).comp.latchedView = none := by
  rw [(loadProfile_comp h).1]
  cases hc : s.comp.context with
  | none =>
    rw [(camerasLoaded_idle s p hc).1, Composer.latchedView, hc]
  | some ctx =>
    obtain ⟨-, drawn, refs, latched, -, comp, -⟩ := camerasLoaded_context s p hc
    rw [comp]
    rfl

end

/-- Settles O50: the tests in their order, then an accepted load block by block. -/
theorem profileLoadReplacesTheConfiguration : Obligations.ProfileLoadReplacesTheConfiguration := by
  intro s h slot hp hlen a run refused
  have length : lengthIs h 1 = true := lengthIs_eq hlen
  refine ⟨fun hb => request_refused hp length (answerLoadProfile_above hb), fun n hn => ?_⟩
  subst hn
  refine ⟨fun hs => request_refused hp length (answerLoadProfile_busy hs),
    fun hs hx => request_refused hp length (answerLoadProfile_notFound hs hx),
    fun p check hs hx hc => request_answered hp length (answerLoadProfile_corrupt hs hx hc),
    fun p check hs hx hc => ⟨fun hm => request_refused hp length (answerLoadProfile_moving hs hx hc hm), fun hm => ?_⟩⟩
  have whole := loadProfile_eq a p hm
  have disp := loadProfile_disp a p hm
  obtain ⟨comp, freeCount⟩ := loadProfile_comp (p := p) hm
  obtain ⟨override, active, selected, activation⟩ := selLoaded_choice a p
  rw [← loadProfile_sel hm] at override active selected activation
  refine ⟨a.loadProfile p, request_accepted hp length (answerLoadProfile_loads hs hx hc hm), loadProfile_snapshot a p hm,
    ?_, ?_, ?_, ?_, ?_, ?_, fun i => ?_, ?_, loadProfile_latchedView hm, fun hc => ?_, fun ctx hc => ?_,
    override, active, selected, activation, loadProfile_entries hm, loadProfile_sig hm, fun hv hold => ?_, fun hv => ?_⟩
  · rw [whole]
  · rw [whole]
  · rw [whole]
  · rw [whole]
  · rw [whole]
  · rw [whole]
  · have cam := loadProfile_cam (p := p) hm i
    refine ⟨fun hl he => cam.trans (load_stays _ _ _ _ hl he), fun hl he => cam.trans (load_enables _ _ _ _ hl he),
      fun hl he => cam.trans (load_examines _ _ _ _ hl he), fun hl he => cam.trans (load_retrains _ _ _ _ hl he),
      fun hl he => cam.trans (load_disables _ _ _ _ hl he)⟩
  · rw [whole]
    rfl
  · obtain ⟨idle, count⟩ := camerasLoaded_idle a p hc
    exact ⟨comp.trans idle, freeCount.trans count⟩
  · obtain ⟨count, drawn, refs, latched, more, context, slots⟩ := camerasLoaded_context a p hc
    exact ⟨freeCount.trans count, drawn, refs, latched, more, comp.trans context, slots⟩
  · have table : a.dispLoaded p = _ := display_load_eq a.disp p.outputEnable p.timing a.clock a.screen
    have moves := disp.trans (if_pos ⟨(congrArg SignalUnit.movingValue (loadProfile_sig hm)).symm.trans hv,
      (congrArg Display.state table).trans hold⟩)
    rw [moves, table]
    rfl
  · have table : a.dispLoaded p = _ := display_load_eq a.disp p.outputEnable p.timing a.clock a.screen
    have stays : ¬((a.sigLoaded p).movingValue = true ∧ (a.dispLoaded p).state = .hold) := by
      rintro ⟨moving, hold⟩
      rcases hv with hv | hv
      · have still : (a.sigLoaded p).movingValue = false := (congrArg SignalUnit.movingValue (loadProfile_sig hm)).symm.trans hv
        rw [still] at moving
        cases moving
      · exact hv ((congrArg Display.state table).symm.trans hold)
    exact (disp.trans (if_neg stays)).trans table

end Sys2Proof.Machine
end

section
/-! What a flush of one camera does to the rest of the part (R32, R42, R101). -/

namespace Sys2Proof.Machine

section
variable {s : State} {ctx : Context} (i : Fin 4) (c : Cam)

theorem flushCam_idle (h : s.comp.context = none) : s.flushCam i c = s.setCam i c := by
  rw [State.flushCam, advanceDrawing_none s h, withdrawSlot_none s i h]

theorem advanceDrawing_freeCount (h : s.comp.context = some ctx) : s.advanceDrawing.freeCount = s.freeCount + 1 := by
  simp only [State.advanceDrawing, h]

theorem flushCam_freeCount (h : s.comp.context = some ctx) : (s.flushCam i c).freeCount = s.freeCount + 1 := by
  rw [State.flushCam, State.setCam_freeCount, State.withdrawSlot_freeCount, advanceDrawing_freeCount h]

/-- A flush draws on and then withdraws the camera's slot from the context, if the composer refers to one. -/
theorem flushCam_context (h : s.comp.context = some ctx) : ∃ drawn, ctx.drawn ≤ drawn ∧
    (s.flushCam i c).comp.context = some { ctx with
      drawn := drawn
      slotRefs := ctx.slotRefs.set i none
      frame := { ctx.frame with
        cams := if ctx.slotRefs[i] = none then ctx.frame.cams
          else ctx.frame.cams.set i (ctx.frame.cams[i].map fun l => l.withdrawnBy drawn) } } := by
  obtain ⟨drawn, more, context⟩ := advanceDrawing_context s h
  refine ⟨drawn, more, ?_⟩
  rw [State.flushCam, State.setCam_comp, withdrawSlot_context _ i context]
  by_cases unused : ctx.slotRefs[i] = none
  · have kept : ctx.slotRefs.set i none = ctx.slotRefs := by
      rw [← unused]
      exact Vector.set_getElem_self i.isLt
    simp only [unused, Option.isSome_none, Bool.false_eq_true, if_false, if_true, kept]
  · simp only [Option.isSome_iff_ne_none.2 unused, unused, if_true, if_false, withdraw_eq]

/-- A flush reaches the cameras, the composer's context and the count of free values, and nothing else. -/
theorem flushCam_rest : s.flushCam i c = { s with
    cams := (s.flushCam i c).cams
    comp := { s.comp with context := (s.flushCam i c).comp.context }
    freeCount := (s.flushCam i c).freeCount } := by
  rw [← flushCam_comp]
  cases h : s.comp.context with
  | none => rw [flushCam_idle i c h]; rfl
  | some ctx =>
    simp only [State.flushCam, State.withdrawSlot, State.advanceDrawing, h]
    split <;> rfl

end

/-- Settles O12: without a context only the camera is replaced; with one the drawing goes on and the slot is withdrawn. -/
theorem flushWithdrawsTheReference : Obligations.FlushWithdrawsTheReference := by
  intro s i c
  refine ⟨?_, fun j hj => ?_, flushCam_rest i c, fun h => ?_, fun ctx h =>
    ⟨flushCam_freeCount i c h, flushCam_context i c h⟩⟩
  · exact State.setCam_same _ i c
  · rw [State.flushCam_cams]
    exact Vector.getElem_set_ne i.isLt j.isLt fun e => hj (Fin.ext e.symm)
  · rw [flushCam_idle i c h]
    exact ⟨h, rfl⟩

end Sys2Proof.Machine
end

section
/-! The period estimate, the rate check and the stale limit (R40, R41). -/

namespace Sys2Proof.Machine

/-! ### The estimate and its check (R40) -/

section
variable {r : Ring} {p : PortItems}

theorem estimate_of_short (h : r.intervals.length < 8) (nominal : Nat) : r.estimate nominal = nominal := by
  rw [Ring.estimate, if_neg (by omega)]

theorem estimate_of_full (h : r.intervals.length = 8) (nominal : Nat) :
    r.estimate nominal = (r.intervals.sum + 4) / 8 := by
  rw [Ring.estimate, if_pos h]

/-- With fewer than eight intervals there is no rate to check (R40). -/
theorem rateOut_of_short (h : r.intervals.length < 8) : r.rateOut p = false := by
  rw [Ring.rateOut, decide_eq_false (by omega : ¬r.intervals.length = 8), Bool.false_and]

/-- The rate check, over the integers (R40). -/
theorem rateOut_iff (h : r.intervals.length = 8) : r.rateOut p = true ↔
    (p.rateWindow : Int) * p.period < 100 * |(r.estimate p.period : Int) - p.period| := by
  simp only [Ring.rateOut, h, decide_true, Bool.true_and, decide_eq_true_eq, gt_iff_lt]
  rw [Int.abs_eq_natAbs]
  exact_mod_cast Iff.rfl

/-- The manual's figures for a nominal period of 33.3 ms and a window of 10 per cent (R40). -/
theorem rateOut_manual_figures (h : r.intervals.length = 8) (hp : p.period = 333) (hw : p.rateWindow = 10) :
    r.rateOut p = false ↔ 300 ≤ r.estimate p.period ∧ r.estimate p.period ≤ 366 := by
  rw [← Bool.not_eq_true, rateOut_iff h, hp, hw]
  generalize r.estimate 333 = E
  rcases abs_cases ((E : Int) - (333 : Nat)) with ⟨e, _⟩ | ⟨e, _⟩ <;> rw [e] <;> omega

end

/-! ### The stale limit (R41) -/

theorem clampNat_of_le_low {x lo hi : Nat} (h : x ≤ lo) : clampNat x lo hi = lo := by
  unfold clampNat
  omega

theorem clampNat_of_high_le {x lo hi : Nat} (hl : lo ≤ hi) (h : hi ≤ x) : clampNat x lo hi = hi := by
  unfold clampNat
  omega

theorem clampNat_of_within {x lo hi : Nat} (hl : lo ≤ x) (hh : x ≤ hi) : clampNat x lo hi = x := by
  unfold clampNat
  omega

/-- Settles O21: the estimate by whether eight intervals are held, and the three ranges of the clamp. -/
theorem rateCheckAndStaleLimit : Obligations.RateCheckAndStaleLimit := by
  intro r p E three
  exact ⟨fun short => ⟨estimate_of_short short _, rateOut_of_short short⟩,
    fun full => ⟨estimate_of_full full _, rateOut_iff full, rateOut_manual_figures full⟩,
    clampNat_of_le_low, clampNat_of_high_le (by decide), clampNat_of_within⟩

end Sys2Proof.Machine
end

section
/-! An output frame start in RUNNING: the claims and releases, the latched context and the counters (R29, R30, R95 to R99). -/

namespace Sys2Proof.Machine

/-! ### Claims and releases (R29, R30) -/

section
variable {r : Ring}

theorem readyFrame_isSome_iff : r.readyFrame.isSome = true ↔ ∃ (k : Fin 3) (f : Frame), r.slots[k] = .ready f := by
  cases h : r.readyFrame with
  | none => exact ⟨nofun, fun ⟨k, f, hk⟩ => absurd hk (readyFrame_none h k f)⟩
  | some f =>
    obtain ⟨k, hk⟩ := readyFrame_mem h
    exact ⟨fun _ => ⟨k, f, hk⟩, fun _ => rfl⟩

theorem showingFrame_isSome_iff : r.showingFrame.isSome = true ↔ ∃ (k : Fin 3) (f : Frame), r.slots[k] = .showing f := by
  cases h : r.showingFrame with
  | none => exact ⟨nofun, fun ⟨k, f, hk⟩ => absurd hk (showingFrame_none h k f)⟩
  | some f =>
    obtain ⟨k, hk⟩ := showingFrame_mem h
    exact ⟨fun _ => ⟨k, f, hk⟩, fun _ => rfl⟩

theorem isShowing_iff (x : Slot) : x.isShowing = true ↔ ∃ f, x = .showing f := by
  cases x <;> simp [Slot.isShowing]

theorem lowest_eq_none {test : Slot → Bool} (h : r.lowest test = none) (k : Fin 3) : test r.slots[k] = false := by
  unfold Ring.lowest at h
  split at h
  · cases h
  split at h
  · cases h
  split at h
  · cases h
  rename_i n0 n1 n2
  exact match k with
  | 0 => Bool.eq_false_iff.2 n0
  | 1 => Bool.eq_false_iff.2 n1
  | 2 => Bool.eq_false_iff.2 n2

/-- The SHOWING slot is the lowest-numbered one, as there is no other (R24). -/
theorem lowest_of_showing (hs : slotsSafe r.slots.toList) {k : Fin 3} {f : Frame} (hk : r.slots[k] = .showing f) :
    r.lowest Slot.isShowing = some k := by
  have showing : r.slots[k].isShowing = true := by rw [hk]; rfl
  cases h : r.lowest Slot.isShowing with
  | none => exact absurd (lowest_eq_none h k) (by rw [showing]; exact nofun)
  | some j => rw [showing_unique hs (lowest_eq_some h).1 showing]

theorem lowest_of_none_showing (hn : ∀ (k : Fin 3) (f : Frame), r.slots[k] ≠ .showing f) :
    r.lowest Slot.isShowing = none := by
  cases h : r.lowest Slot.isShowing with
  | none => rfl
  | some j =>
    obtain ⟨f, hj⟩ := (isShowing_iff _).1 (lowest_eq_some h).1
    exact absurd hj (hn j f)

theorem mapSlots_slot (r : Ring) (g : Slot → Slot) (k : Fin 3) : (r.mapSlots g).slots[k] = g r.slots[k] :=
  mapTable_get g r.slots k k.isLt

/-- A slot at a claim with a READY frame (R29): SHOWING becomes FREE, and READY becomes SHOWING. -/
def Slot.claimed : Slot → Slot
  | .showing _ => .free
  | .ready f => .showing f
  | x => x

theorem claimed_eq : (fun x : Slot => x.dropShowing.showReady) = Slot.claimed := by
  funext x
  cases x <;> rfl

theorem claim_of_ready (h : ∃ (k : Fin 3) (f : Frame), r.slots[k] = .ready f) : r.claim = r.mapSlots Slot.claimed := by
  rw [Ring.claim, if_pos (readyFrame_isSome_iff.2 h), claimed_eq]

theorem claim_of_no_ready (h : ¬∃ (k : Fin 3) (f : Frame), r.slots[k] = .ready f) : r.claim = r := by
  rw [Ring.claim, if_neg (mt readyFrame_isSome_iff.1 h)]

/-- A claim touches the slots alone. -/
theorem claim_rest (r : Ring) : r.claim = { r with slots := r.claim.slots } := by
  unfold Ring.claim
  split <;> rfl

/-- A ring at an output frame start: claimed for a camera that the view shows, released for another (R97). -/
def Ring.handed (r : Ring) (used : Bool) : Ring := if used then r.claim else r.release

theorem handed_rest (r : Ring) (used : Bool) : r.handed used = { r with slots := (r.handed used).slots } := by
  cases used
  · rfl
  · exact claim_rest r

theorem handed_slotsSafe (used : Bool) (h : slotsSafe r.slots.toList) : slotsSafe (r.handed used).slots.toList := by
  cases used
  · exact release_slotsSafe h
  · exact claim_slotsSafe h

end

/-! ### The cameras (R96, R97) -/

theorem uses_iff (v : View) (i : Fin 4) : View.uses v i = true ↔ ∃ x ∈ v.tiles, x.camera = i := by
  simp [View.uses]

theorem claimCams_get (s : State) (v : View) (i : Fin 4) :
    (s.claimCams v)[i] = { s.cams[i] with ring := s.cams[i].ring.handed (View.uses v i) } := by
  simp [State.claimCams, Ring.handed]

/-- What a camera and its ring become (R29, R30). -/
theorem claimCams_cases (s : State) (v : View) (i : Fin 4) :
    let shows := ∃ x ∈ v.tiles, x.camera = i
    let hasReady := ∃ (k : Fin 3) (f : Frame), s.cams[i].ring.slots[k] = .ready f
    let c := (s.claimCams v)[i]
    c = { s.cams[i] with ring := { s.cams[i].ring with slots := c.ring.slots } } ∧
    (shows → ¬hasReady → c.ring.slots = s.cams[i].ring.slots) ∧
    ∀ k : Fin 3, (shows → hasReady → c.ring.slots[k] = (s.cams[i].ring.slots[k]).claimed) ∧
      (¬shows → c.ring.slots[k] = (s.cams[i].ring.slots[k]).dropShowing) := by
  intro shows hasReady c
  have cam : c = { s.cams[i] with ring := s.cams[i].ring.handed (View.uses v i) } := claimCams_get s v i
  have slots : c.ring.slots = (s.cams[i].ring.handed (View.uses v i)).slots := by rw [cam]
  have used (h : shows) : s.cams[i].ring.handed (View.uses v i) = s.cams[i].ring.claim := by
    rw [Ring.handed, if_pos ((uses_iff v i).2 h)]
  have unused (h : ¬shows) : s.cams[i].ring.handed (View.uses v i) = s.cams[i].ring.release := by
    rw [Ring.handed, if_neg (mt (uses_iff v i).1 h)]
  refine ⟨?_, fun hs hr => ?_, fun k => ⟨fun hs hr => ?_, fun hs => ?_⟩⟩
  · rw [slots, ← handed_rest]
    exact cam
  · rw [slots, used hs, claim_of_no_ready hr]
  · rw [slots, used hs, claim_of_ready hr, mapSlots_slot]
  · rw [slots, unused hs, Ring.release, mapSlots_slot]

/-! ### The latched context (R95, R98) -/

section
variable (s : State) (v : View)

theorem latch_slotRefs (cams : Vector Cam 4) (i : Fin 4) : (s.latch v cams).slotRefs[i] =
    if View.uses v i then (cams[i]).ring.lowest Slot.isShowing else none := by
  simp [State.latch]

theorem latch_cams (cams : Vector Cam 4) (i : Fin 4) : (s.latch v cams).frame.cams[i] =
    if View.uses v i then some (latchCamera cams[i]) else none := by
  simp [State.latch]

theorem latch_signals (cams : Vector Cam 4) (n : Fin 16) :
    (s.latch v cams).frame.signals[n] = s.sig.signals[n].value := by
  simp [State.latch, SignalUnit.values]

theorem latch_tiles (cams : Vector Cam 4) : (s.latch v cams).frame.tiles.map LatchedTile.tile = v.tiles := by
  simp [State.latch, Function.comp_def]

theorem latch_decision {cams : Vector Cam 4} {x : LatchedTile} (h : x ∈ (s.latch v cams).frame.tiles) :
    x.decision = s.meshDecision x.tile := by
  obtain ⟨t, -, rfl⟩ := List.mem_map.1 h
  rfl

/-- The context holds nothing for a camera that the view does not show. -/
theorem latch_unused {i : Fin 4} (h : ¬∃ x ∈ v.tiles, x.camera = i) (cams : Vector Cam 4) :
    (s.latch v cams).frame.cams[i] = none ∧ (s.latch v cams).slotRefs[i] = none := by
  rw [latch_cams, latch_slotRefs, if_neg (mt (uses_iff v i).1 h), if_neg (mt (uses_iff v i).1 h)]
  exact ⟨rfl, rfl⟩

/-- The context of a camera that the view shows refers to its SHOWING slot and that slot's rows. -/
theorem latch_used {i : Fin 4} (h : ∃ x ∈ v.tiles, x.camera = i) {cams : Vector Cam 4}
    (hs : slotsSafe (cams[i]).ring.slots.toList) :
    (s.latch v cams).frame.cams[i] = some (latchCamera cams[i]) ∧
    (∀ (k : Fin 3) (f : Frame), (cams[i]).ring.slots[k] = .showing f →
      (s.latch v cams).slotRefs[i] = some k ∧ (latchCamera cams[i]).rows = some f.rows) ∧
    ((∀ (k : Fin 3) (f : Frame), (cams[i]).ring.slots[k] ≠ .showing f) →
      (s.latch v cams).slotRefs[i] = none ∧ (latchCamera cams[i]).rows = none) := by
  rw [latch_cams, latch_slotRefs, if_pos ((uses_iff v i).2 h), if_pos ((uses_iff v i).2 h)]
  refine ⟨rfl, fun k f hk => ⟨lowest_of_showing hs hk, ?_⟩, fun hn => ⟨lowest_of_none_showing hn, ?_⟩⟩
  · rw [latchCamera, showingFrame_eq_some hs hk]
    rfl
  · rw [latchCamera, showingFrame_eq_none hn]
    rfl

end

/-! ### Mesh decisions (R98) -/

section
variable {s : State} {t : Tile}

theorem meshDecision_linear {a b c d : Nat} (h : t.mapping = .linear a b c d) : s.meshDecision t = .linear := by
  rw [State.meshDecision, h]

theorem meshDecision_fits {n : Fin 8} {m : Mesh} (h : t.mapping = .mesh n) (hm : s.mesh.slots[n] = .ready m)
    (hc : m.cols = (t.w - 1) / 32 + 2) (hr : m.rows = (t.h - 1) / 32 + 2) : s.meshDecision t = .mesh m.nodes := by
  simp only [State.meshDecision, h, hm]
  exact if_pos ⟨hc, hr⟩

theorem meshDecision_faults {n : Fin 8} (h : t.mapping = .mesh n)
    (hn : ∀ m, s.mesh.slots[n] = .ready m → m.cols ≠ (t.w - 1) / 32 + 2 ∨ m.rows ≠ (t.h - 1) / 32 + 2) :
    s.meshDecision t = .fault := by
  simp only [State.meshDecision, h]
  cases hm : s.mesh.slots[n] with
  | ready m => exact if_neg fun e => (hn m hm).elim (· e.1) (· e.2)
  | free => rfl
  | loading cols rows held => rfl

end

/-! ### Counters and VIEW_CHANGED (R97 to R99) -/

/-- A saturating counter advanced several times (chapter 4.8). -/
theorem repeat_bump (n : Nat) {c : Nat} (h : c ≤ 4294967295) : Nat.repeat bump n c = min (c + n) 4294967295 := by
  induction n with
  | zero => exact (Nat.min_eq_left h).symm
  | succ n ih =>
    rw [Nat.repeat, ih, bump, counterMax]
    omega

theorem isRepeat_iff (s : State) (v : View) (i : Fin 4) : s.isRepeat v i = true ↔
    (∃ x ∈ v.tiles, x.camera = i) ∧ (¬∃ (k : Fin 3) (f : Frame), s.cams[i].ring.slots[k] = .ready f) ∧
      ∃ (k : Fin 3) (f : Frame), s.cams[i].ring.slots[k] = .showing f := by
  rw [State.isRepeat, Bool.and_eq_true, Bool.and_eq_true, uses_iff, showingFrame_isSome_iff, ← readyFrame_isSome_iff,
    Bool.not_eq_true, Option.isSome_eq_false_iff, and_assoc]

/-- The number of the cameras that satisfy a test is the length of any list of them. -/
theorem length_filter_finRange {n : Nat} {test : Fin n → Bool} {l : List (Fin n)} (hl : l.Nodup)
    (h : ∀ i, i ∈ l ↔ test i = true) : ((List.finRange n).filter test).length = l.length :=
  ((List.perm_ext_iff_of_nodup ((List.nodup_finRange n).filter test) hl).2 fun i => by simp [h]).length_eq

theorem viewChanges_iff (c : Composer) (n : Fin 16) :
    c.viewChanges n = true ↔ ∃ m, c.previousView = some m ∧ m ≠ n := by
  unfold Composer.viewChanges
  cases c.previousView <;> simp

theorem take_tileFault (c : Composer) (ctx : Context) (repeats : Nat) :
    (c.take ctx repeats).tileFault = true ↔ ∃ x ∈ ctx.frame.tiles, x.decision = .fault := by
  simp [Composer.take]

/-! ### The whole output frame start (R96, R116) -/

/-- The display output when the frame composed from a context, if any, ends (R121, R124). -/
def Display.ended (d : Display) : Option Context → Display
  | none => d
  | some ctx => { d with framesShown := bump d.framesShown, heldPicture := some ctx.frame }

theorem endComposedFrame_eq (s : State) : s.endComposedFrame = { s with disp := s.disp.ended s.comp.context } := by
  unfold State.endComposedFrame
  split <;> rename_i h <;> rw [h] <;> rfl

/-- What an output frame start that composes view `v` leaves before the status unit's work. -/
def State.frameComposed (s : State) (v : View) : State := { s with
  clock := max s.clock (s.disp.nextStart.getD s.clock)
  cams := s.claimCams v
  comp := s.comp.take ((s.atInstant s.disp.nextStart).latch v (s.claimCams v))
    ((List.finRange 4).filter (s.isRepeat v)).length
  disp := { s.disp.ended s.comp.context with
    sending := .composed, nextStart := s.disp.nextStart.map fun d => d + 5000 }
  sts := { s.sts with events :=
    if s.comp.viewChanges s.sel.selected then s.sts.events ||| itemBit itemViewChanged else s.sts.events } }

theorem composeView_eq (s : State) (v : View) : s.composeView v = { s with
    cams := s.claimCams v
    comp := s.comp.take (s.latch v (s.claimCams v)) ((List.finRange 4).filter (s.isRepeat v)).length
    sts := { s.sts with events :=
      if s.comp.viewChanges s.sel.selected then s.sts.events ||| itemBit itemViewChanged else s.sts.events } } := by
  unfold State.composeView
  dsimp only
  split <;> rfl

section
variable {s : State} {v : View}

theorem startFrame_running (hr : s.disp.state = .running) (hh : s.disp.holdPending = false)
    (hv : s.views[s.sel.selected] = some v) :
    s.startFrame = some (State.beginFrame
      (({ s with disp := s.disp.ended s.comp.context } : State).composeView v) .composed) := by
  have hold : (s.disp.ended s.comp.context).holdPending = false := by
    cases s.comp.context <;> exact hh
  simp only [State.startFrame, hr, endComposedFrame_eq, hold, hv, Bool.false_eq_true, if_false, Option.map_some]

/-- In RUNNING with no hold pending the composer takes the selected view. -/
theorem exec_outputFrameStart_running (hp : s.powered = true) (hr : s.disp.state = .running)
    (hh : s.disp.holdPending = false) (hv : s.views[s.sel.selected] = some v) :
    exec .outputFrameStart s = .next (s.frameComposed v).settle := by
  have on : s.powered = true ∧ s.disp.state ≠ .off := ⟨hp, by rw [hr]; exact nofun⟩
  have start := startFrame_running (s := s.atInstant s.disp.nextStart) hr hh hv
  have leaves : State.beginFrame (({ s.atInstant s.disp.nextStart with
      disp := s.disp.ended s.comp.context } : State).composeView v) .composed = s.frameComposed v := by
    rw [composeView_eq]
    cases h : s.comp.context <;> simp only [State.frameComposed, h] <;> rfl
  have run : exec .outputFrameStart s = execOutputFrameStart s := rfl
  rw [run, execOutputFrameStart, if_pos on, start]
  exact congrArg (fun t : State => Host.Outcome.next t.settle) leaves

end

/-- Settles O40: the state written out as `frameComposed`, with the rings by `claimCams_cases` and the context by the lemmas
of `latch`. -/
theorem outputFrameStartComposes : Obligations.OutputFrameStartComposes := by
  intro s v hp hr hh hv safe now time shows hasReady changed
  have cams := claimCams_cases s v
  have claimedSafe (i : Fin 4) : slotsSafe ((s.claimCams v)[i]).ring.slots.toList := by
    rw [claimCams_get]
    exact handed_slotsSafe _ (safe i)
  refine ⟨s.frameComposed v, (s.atInstant s.disp.nextStart).latch v (s.claimCams v), exec_outputFrameStart_running hp hr hh hv, ?_, fun old hc => ?_,
    fun hc => ?_, fun hc => ?_, fun hc => ?_, fun i => cams i, rfl, rfl, rfl, fun l hl hle hmem => ?_, rfl, rfl, rfl, ?_,
    rfl, latch_signals _ _ _, decide_eq_true_iff, decide_eq_true_iff, rfl, latch_tiles _ _ _, fun x hx => ?_,
    take_tileFault _ _ _, fun i => ⟨fun hn => latch_unused _ _ hn _, fun hu => ?_⟩⟩
  · simp only [State.frameComposed]
    cases s.comp.context <;> rfl
  · simp only [State.frameComposed, hc]
    exact ⟨rfl, rfl⟩
  · simp only [State.frameComposed, hc]
    exact ⟨rfl, rfl⟩
  · exact if_pos ((viewChanges_iff _ _).2 hc)
  · exact if_neg (mt (viewChanges_iff _ _).1 hc)
  · have count := length_filter_finRange hl fun i => (hmem i).trans (isRepeat_iff s v i).symm
    exact (repeat_bump _ hle).trans (by rw [count])
  · show areaOf s.disp.current = _
    cases s.disp.current <;> rfl
  · rw [latch_decision _ _ hx]
    exact ⟨fun ⟨_, _, _, _, h⟩ => meshDecision_linear h,
      fun n hn => ⟨fun mesh hm hc hr => meshDecision_fits hn hm hc hr, fun hm => meshDecision_faults hn hm⟩⟩
  · obtain ⟨latched, showing, empty⟩ := latch_used _ _ hu (claimedSafe i)
    have cam := (cams i).1
    refine ⟨_, latched, ?_, ?_, ?_, ?_, ?_, rfl, showing, empty⟩ <;> rw [cam] <;> rfl

end Sys2Proof.Machine
end

section
/-! The stored data in order: gains, meshes, views and their references (R49, R60, R61, R63, R72, R73, R79). -/

namespace Sys2Proof.Machine

/-! ### Gains (R48, R49, R57) -/

/-- A metering unit whose gain lies within its limits, which are as R44 allows them (R49). -/
def Meter.InLimits (m : Meter) : Prop :=
  MeterItems.limitsSafe m.config ∧ m.config.gainMin ≤ m.gain ∧ m.gain ≤ m.config.gainMax

theorem gainsSafe_iff (s : State) : s.gainsSafe ↔ ∀ i : Fin 4, (s.cams[i]).meter.InLimits := Iff.rfl

theorem clampNat_within {x lo hi : Nat} (h : lo ≤ hi) : lo ≤ clampNat x lo hi ∧ clampNat x lo hi ≤ hi := by
  unfold clampNat
  omega

section
variable {m : Meter}

theorem clampGain_inLimits (h : MeterItems.limitsSafe m.config) : m.clampGain.InLimits :=
  ⟨h, clampNat_within h.2.1⟩

theorem load_inLimits (m : Meter) {items : MeterItems} (h : MeterItems.limitsSafe items) : (m.load items).InLimits :=
  clampGain_inLimits h

theorem configure_inLimits (m : Meter) {items : MeterItems} (h : MeterItems.limitsSafe items) :
    (m.configure items).InLimits :=
  clampGain_inLimits h

theorem Meter.InLimits.flush (h : m.InLimits) : m.flush.InLimits := ⟨h.1, clampNat_within h.1.2.1⟩

/-- A step of the gain follower ends within the gain limits (R48). -/
theorem gainStep_within {items : MeterItems} {gain : Nat} (mean : Nat) (h : items.gainMin ≤ items.gainMax)
    (hg : items.gainMin ≤ gain ∧ gain ≤ items.gainMax) :
    items.gainMin ≤ gainStep items mean gain ∧ gainStep items mean gain ≤ items.gainMax := by
  unfold gainStep
  dsimp only
  split
  · exact hg
  · simp only [clampInt]
    omega

theorem onFrame_config (m : Meter) (u : SignalUnit) (p : PortItems) (rows : List (List Pixel)) :
    (m.onFrame u p rows).config = m.config := by
  unfold Meter.onFrame
  dsimp only
  split <;> rfl

theorem onFrame_gain (m : Meter) (u : SignalUnit) (p : PortItems) (rows : List (List Pixel)) :
    (m.onFrame u p rows).gain = gainStep m.config
      (meanLuma (sampleGrid rows (effectiveWindow m.config p.width p.height))
        (effectiveWindow m.config p.width p.height)) m.gain := by
  unfold Meter.onFrame
  dsimp only
  split <;> rfl

theorem Meter.InLimits.onFrame (h : m.InLimits) (u : SignalUnit) (p : PortItems) (rows : List (List Pixel)) :
    (m.onFrame u p rows).InLimits := by
  unfold Meter.InLimits
  rw [onFrame_config, onFrame_gain]
  exact ⟨h.1, gainStep_within _ h.1.2.1 h.2⟩

/-- Accepted metering items have their limits in order (R44, R57). -/
theorem valid_limitsSafe {items : MeterItems} {w h : Nat} (hv : items.valid w h = true) :
    MeterItems.limitsSafe items := by
  simp only [MeterItems.valid, within, Bool.and_eq_true, decide_eq_true_eq] at hv
  unfold MeterItems.limitsSafe
  omega

end

/-! ### Meshes (R60, R61, R63) -/

/-- The slot `i` holding `x` agrees with the upload context: it is LOADING exactly while the context names it, with as many rows
held as next row says (R63). -/
def MeshSlot.Agrees (x : MeshSlot) (i : Fin 8) (up : Option Upload) : Prop :=
  match x with
  | .loading _ _ held => ∃ u, up = some u ∧ u.slot = i ∧ held.length = u.nextRow
  | _ => ∀ u, up = some u → u.slot ≠ i

theorem meshSafe_iff (m : MeshStore) : m.safe ↔
    m.charge ≤ poolNodes ∧ (∀ i : Fin 8, MeshSlot.safe m.slots[i]) ∧ ∀ i : Fin 8, (m.slots[i]).Agrees i m.upload := Iff.rfl

section
variable {m : MeshStore} {i j : Fin 8} {x : MeshSlot} {u : Upload} {up : Option Upload}

/-- The slot that the upload context names is LOADING. -/
theorem MeshSlot.Agrees.loading (h : x.Agrees i (some u)) (hu : u.slot = i) :
    ∃ cols rows held, x = .loading cols rows held ∧ held.length = u.nextRow := by
  cases x with
  | free => exact absurd hu (h u rfl)
  | ready mesh => exact absurd hu (h u rfl)
  | loading cols rows held =>
    obtain ⟨v, hv, -, hl⟩ := h
    cases hv
    exact ⟨cols, rows, held, rfl, hl⟩

/-- A slot that no upload names stays in agreement with every context that does not name it. -/
theorem MeshSlot.Agrees.unnamed (h : x.Agrees i up) (hu : ∀ u, up = some u → u.slot ≠ i) {other : Option Upload}
    (ho : ∀ u, other = some u → u.slot ≠ i) : x.Agrees i other := by
  cases x with
  | free => exact ho
  | ready mesh => exact ho
  | loading cols rows held =>
    obtain ⟨u, hup, hi, -⟩ := h
    exact absurd hi (hu u hup)

/-- One slot replaced together with the upload context: no context names another slot, before or after. -/
theorem MeshStore.safe.replace (h : m.safe) (before : ∀ u, m.upload = some u → u.slot = i)
    (after : ∀ u, up = some u → u.slot = i) (room : (m.put i x).charge ≤ poolNodes) (fits : MeshSlot.safe x)
    (agrees : x.Agrees i up) : MeshStore.safe { m.put i x with upload := up } := by
  obtain ⟨-, slots, context⟩ := (meshSafe_iff m).1 h
  refine (meshSafe_iff _).2 ⟨room, fun j => ?_, fun j => ?_⟩ <;> by_cases hj : i = j
  · subst hj
    exact (put_same m i x).symm ▸ fits
  · exact (put_other m i j x hj).symm ▸ slots j
  · subst hj
    exact (put_same m i x).symm ▸ agrees
  · have kept : ({ m.put i x with upload := up } : MeshStore).slots[j] = m.slots[j] := put_other m i j x hj
    rw [kept]
    exact (context j).unnamed (fun u hu hs => hj ((before u hu).symm.trans hs))
      fun u hu hs => hj ((after u hu).symm.trans hs)

/-- Replacing a slot by one that charges no more keeps the store within its pool (R61). -/
theorem put_charge_le (h : m.charge ≤ poolNodes) (hx : x.charge ≤ (m.slots[i]).charge) :
    (m.put i x).charge ≤ poolNodes := by
  have := charge_put m i x
  omega

/-- The end of an upload frees its slot (R67, R68, R69). -/
theorem MeshStore.safe.endUpload (h : m.safe) (hu : ∀ u, m.upload = some u → u.slot = i) : (m.endUpload i).safe :=
  h.replace hu nofun (put_charge_le h.1 (Nat.zero_le _)) trivial nofun

/-- A slot that is not being loaded is freed (R69). -/
theorem MeshStore.safe.freeReady (h : m.safe) {mesh : Mesh} (hr : m.slots[i] = .ready mesh) : (m.put i .free).safe := by
  obtain ⟨pool, slots, context⟩ := (meshSafe_iff m).1 h
  refine (meshSafe_iff _).2 ⟨put_charge_le pool (Nat.zero_le _), fun j => ?_, fun j => ?_⟩ <;> by_cases hj : i = j
  · subst hj
    exact (put_same m i _).symm ▸ trivial
  · exact (put_other m i j _ hj).symm ▸ slots j
  · subst hj
    have idle := context i
    rw [hr] at idle
    rw [put_same]
    exact idle
  · rw [put_other m i j _ hj]
    exact context j

/-- A mesh slot as a profile loads it is not LOADING (R72). -/
theorem meshSlotOf_agrees (mesh : Option Mesh) (i : Fin 8) : (meshSlotOf mesh).Agrees i none := by
  cases mesh <;> nofun

/-- The store that a profile leaves is in order when its meshes are complete and fit the pool (R72). -/
theorem loadedMeshes_safe {meshes : Vector (Option Mesh) 8} (pool : (loadedMeshes meshes).charge ≤ poolNodes)
    (complete : ∀ i : Fin 8, MeshSlot.safe (meshSlotOf meshes[i])) : (loadedMeshes meshes).safe := by
  have slot (i : Fin 8) : (loadedMeshes meshes).slots[i] = meshSlotOf meshes[i] := mapTable_get _ _ i.val i.isLt
  refine (meshSafe_iff _).2 ⟨pool, fun i => ?_, fun i => ?_⟩ <;> rw [slot]
  · exact complete i
  · exact meshSlotOf_agrees _ i

/-- A slot saved and loaded again charges no more than it did, and fits its state (R60, R72). -/
theorem saved_charge_le (x : MeshSlot) : (meshSlotOf x.saved).charge ≤ x.charge := by
  cases x <;> simp [MeshSlot.saved, meshSlotOf, MeshSlot.charge]

theorem saved_safe (h : MeshSlot.safe x) : MeshSlot.safe (meshSlotOf x.saved) := by
  cases x with
  | free => trivial
  | loading cols rows held => trivial
  | ready mesh => exact h

/-- A snapshot's meshes load in order (R72, R162). -/
theorem MeshStore.safe.saved (h : m.safe) : (loadedMeshes (mapTable MeshSlot.saved m.slots)).safe := by
  obtain ⟨pool, slots, -⟩ := (meshSafe_iff m).1 h
  refine loadedMeshes_safe (le_trans ?_ pool) fun i => ?_
  · unfold MeshStore.charge
    have e : (loadedMeshes (mapTable MeshSlot.saved m.slots)).slots.toList =
        m.slots.toList.map fun x => meshSlotOf x.saved := by
      apply List.ext_getElem <;> simp [loadedMeshes]
    rw [e, List.map_map]
    exact List.sum_le_sum fun x _ => saved_charge_le x
  · have e : (mapTable MeshSlot.saved m.slots)[i] = (m.slots[i]).saved := mapTable_get _ _ i.val i.isLt
    rw [e]
    exact saved_safe (slots i)

end

/-! ### Views (R73, R76) -/

section

theorem overlaps_iff (a b : Tile) : a.overlaps b = true ↔
    a.x < b.x + b.w ∧ b.x < a.x + a.w ∧ a.y < b.y + b.h ∧ b.y < a.y + a.h := by
  simp [Tile.overlaps, and_assoc]

theorem noOverlap_iff (tiles : List Tile) : noOverlap tiles = true ↔ tiles.Pairwise fun a b => ¬a.overlaps b = true := by
  induction tiles with
  | nil => simp [noOverlap]
  | cons t rest ih => simp [noOverlap, ih]

theorem insideCanvas_iff (t : Tile) : t.insideCanvas = true ↔ t.x + t.w ≤ 1280 ∧ t.y + t.h ≤ 800 := by
  simp only [Tile.insideCanvas, Bool.and_eq_true, decide_eq_true_eq]
  rfl

theorem mapM_option_length {α β : Type} {f : α → Option β} {l : List α} {r : List β} (h : l.mapM f = some r) :
    r.length = l.length := by
  induction l generalizing r with
  | nil => simp at h; simp [h]
  | cons a l ih =>
    simp only [List.mapM_cons, Option.bind_eq_bind, Option.bind_eq_some_iff, Option.pure_def, Option.some.injEq] at h
    obtain ⟨b, -, bs, hbs, rfl⟩ := h
    simp [ih hbs]

/-- The tiles of an accepted DEFINE_VIEW with an overlay list within its limits make a view in order (R73, R76). -/
theorem tilesOf_safe {fields : List TileFields} {cams : Vector Cam 4} {tiles : List Tile} {overlays : List Prim}
    (h : tilesOf fields cams = some tiles) (few : overlays.length ≤ 24) (cheap : totalCost overlays ≤ 48) :
    View.safe ⟨tiles, overlays⟩ := by
  unfold tilesOf at h
  split at h
  · rename_i taken count made
    split at h
    · rename_i tests
      cases h
      simp only [Bool.and_eq_true, List.all_eq_true, insideCanvas_iff, noOverlap_iff, overlaps_iff] at tests
      obtain ⟨⟨inside, -⟩, apart⟩ := tests
      have length := mapM_option_length made
      simp only [within, Bool.and_eq_true, decide_eq_true_eq] at count
      exact ⟨by simpa only [length] using count.1, by simpa only [length] using count.2, inside, apart, few, cheap⟩
    · cases h
  · cases h

variable {views : Vector (Option View) 16} {n : Fin 16}

/-- A view replaced by one in order, or removed. -/
theorem viewsSafe_set (h : viewsSafe views) {new : Option View} (hv : ∀ v, new = some v → View.safe v) :
    viewsSafe (views.set n new) := by
  intro i v e
  by_cases hi : n = i
  · subst hi
    exact hv v ((Vector.getElem_set_self n.isLt).symm.trans e)
  · have apart : n.val ≠ i.val := fun e => hi (Fin.ext e)
    exact h i v ((Vector.getElem_set_ne n.isLt i.isLt apart).symm.trans e)

end

end Sys2Proof.Machine
end

section
/-! The references to views in order (R79), and the state's stores: what the shared operations keep of them. -/

namespace Sys2Proof.Machine

/-! ### What a selector names (R79) -/

/-- View `n` of a table is defined. -/
def definedIn (views : Vector (Option View) 16) (n : Fin 16) : Bool := (views[n]).isSome

theorem definedView_eq (s : State) (n : Fin 16) : s.definedView n = definedIn s.views n := rfl

theorem definedIn_set (views : Vector (Option View) 16) (n k : Fin 16) (new : Option View) :
    definedIn (views.set n new) k = if n = k then new.isSome else definedIn views k := by
  unfold definedIn
  split
  · next e =>
    subst e
    exact congrArg Option.isSome (Vector.getElem_set_self n.isLt)
  · next e =>
    have apart : n.val ≠ k.val := fun h => e (Fin.ext h)
    exact congrArg Option.isSome (Vector.getElem_set_ne n.isLt k.isLt apart)

/-- The default view, the override view and the view of every entry are defined in `views` (R79). -/
structure Selector.NamesDefined (z : Selector) (views : Vector (Option View) 16) : Prop where
  default : definedIn views z.defaultView = true
  override : ∀ o, z.override = some o → definedIn views o.view = true
  entries : ∀ i : Fin 16, ∀ e, z.entries[i] = some e → definedIn views e.config.view = true

theorem refsSafe_iff (s : State) : s.refsSafe ↔ s.sel.NamesDefined s.views ∧ s.definedView s.sel.selected = true ∧
    ∀ n, s.comp.latchedView = some n → s.definedView n = true :=
  ⟨fun ⟨d, o, z, l, e⟩ => ⟨⟨d, o, e⟩, z, l⟩, fun ⟨⟨d, o, e⟩, z, l⟩ => ⟨d, o, z, l, e⟩⟩

section
variable {z : Selector} {views : Vector (Option View) 16}

/-- The view of every choice is defined (R146). -/
theorem Selector.NamesDefined.viewOf (h : z.NamesDefined views) (c : Choice) : definedIn views (z.viewOf c) = true := by
  unfold Selector.viewOf
  cases c with
  | entry i =>
    dsimp only
    split
    · next e he => exact h.entries i e he
    · exact h.default
  | override =>
    dsimp only
    split
    · next o ho => exact h.override o ho
    · exact h.default
  | default => exact h.default

theorem judge_defaultView (z : Selector) (values : Vector Bool 16) (timeBase now : Nat) :
    (z.judge values timeBase now).defaultView = z.defaultView := by unfold Selector.judge; rfl

theorem judge_override (z : Selector) (values : Vector Bool 16) (timeBase now : Nat) :
    (z.judge values timeBase now).override = z.override := by unfold Selector.judge; rfl

/-- Judging the entries changes none of their fields (R147). -/
theorem Selector.NamesDefined.judge (h : z.NamesDefined views) (values : Vector Bool 16) (timeBase now : Nat) :
    (z.judge values timeBase now).NamesDefined views where
  default := by rw [judge_defaultView]; exact h.default
  override := by rw [judge_override]; exact h.override
  entries := fun i e he => by
    rw [selector_judge_entry, Option.map_eq_some_iff] at he
    obtain ⟨e', he', rfl⟩ := he
    exact h.entries i e' he'

/-- Choosing again names the same views, and the selected one is defined (R146, R147). -/
theorem Selector.NamesDefined.choose (h : z.NamesDefined views) (timeBase : Nat) :
    (z.choose timeBase).NamesDefined views ∧ definedIn views (z.choose timeBase).selected = true :=
  ⟨⟨h.default, h.override, h.entries⟩, h.viewOf z.choice⟩

theorem Selector.NamesDefined.setEntry (h : z.NamesDefined views) (i : Fin 16) {new : Option Entry}
    (hn : ∀ e, new = some e → definedIn views e.config.view = true) :
    Selector.NamesDefined { z with entries := z.entries.set i new } views where
  default := h.default
  override := h.override
  entries := fun j e he => by
    by_cases hj : i = j
    · subst hj
      exact hn e ((Vector.getElem_set_self i.isLt).symm.trans he)
    · have apart : i.val ≠ j.val := fun e => hj (Fin.ext e)
      exact h.entries j e ((Vector.getElem_set_ne i.isLt j.isLt apart).symm.trans he)

/-- A selector names defined views still when more views are defined. -/
theorem Selector.NamesDefined.mono (h : z.NamesDefined views) {more : Vector (Option View) 16}
    (hm : ∀ n, definedIn views n = true → definedIn more n = true) : z.NamesDefined more where
  default := hm _ h.default
  override := fun o ho => hm _ (h.override o ho)
  entries := fun i e he => hm _ (h.entries i e he)

/-- The table and the default view of a profile whose references are in order, without an override (R155). -/
theorem namesDefined_of_profile {p : Profile} (h : Profile.refsSafe p) (hd : z.defaultView = p.defaultView)
    (ho : z.override = none) (he : z.entries = mapTable (Option.map idleEntry) p.table) : z.NamesDefined p.views where
  default := by
    rw [hd]
    exact h.1
  override := fun o hs => by rw [ho] at hs; cases hs
  entries := fun i e hs => by
    have entry : z.entries[i] = (p.table[i]).map idleEntry := he ▸ mapTable_get _ _ i.val i.isLt
    rw [entry, Option.map_eq_some_iff] at hs
    obtain ⟨c, hc, rfl⟩ := hs
    exact h.2 i c hc

end

/-! ### Profiles held (R162) -/

/-- A profile in order: what it stores of gains, meshes, views and references. -/
structure Profile.Ordered (p : Sys2Proof.Profile) : Prop where
  gains : Profile.gainsSafe p
  meshes : Profile.meshesSafe p
  views : Profile.viewsSafe p
  refs : Profile.refsSafe p

section
variable {z : ProfileStore} {P : Profile → Prop}

theorem every_ordered_iff (z : ProfileStore) : z.every Profile.Ordered ↔
    z.every Profile.gainsSafe ∧ z.every Profile.meshesSafe ∧ z.every Profile.viewsSafe ∧ z.every Profile.refsSafe := by
  constructor
  · rintro ⟨slots, save⟩
    exact ⟨⟨fun n p c h => (slots n p c h).gains, fun v h => (save v h).gains⟩,
      ⟨fun n p c h => (slots n p c h).meshes, fun v h => (save v h).meshes⟩,
      ⟨fun n p c h => (slots n p c h).views, fun v h => (save v h).views⟩,
      ⟨fun n p c h => (slots n p c h).refs, fun v h => (save v h).refs⟩⟩
  · rintro ⟨⟨g, g'⟩, ⟨m, m'⟩, ⟨v, v'⟩, ⟨r, r'⟩⟩
    exact ⟨fun n p c h => ⟨g n p c h, m n p c h, v n p c h, r n p c h⟩, fun x h => ⟨g' x h, m' x h, v' x h, r' x h⟩⟩

/-- A slot written, and the save in progress replaced. -/
theorem ProfileStore.every.put (h : z.every P) (n : Fin 4) {x : ProfileSlot} (hx : ∀ p check, x = .valid p check → P p)
    {save : Option Save} (hs : ∀ v, save = some v → P v.snapshot) : ProfileStore.every ⟨z.slots.set n x, save⟩ P := by
  refine ⟨fun m p check e => ?_, hs⟩
  by_cases hm : n = m
  · subst hm
    exact hx p check ((Vector.getElem_set_self n.isLt).symm.trans e)
  · have apart : n.val ≠ m.val := fun e => hm (Fin.ext e)
    exact h.1 m p check ((Vector.getElem_set_ne n.isLt m.isLt apart).symm.trans e)

/-- A slot that becomes INVALID holds no profile (R162). -/
theorem ProfileStore.every.putInvalid (h : z.every P) (n : Fin 4) {save : Option Save}
    (hs : ∀ v, save = some v → P v.snapshot) : ProfileStore.every ⟨z.slots.set n .invalid, save⟩ P :=
  h.put n (fun _ _ e => by cases e) hs

/-- The save in progress replaced (R163). -/
theorem ProfileStore.every.withSave (h : z.every P) {save : Option Save} (hs : ∀ v, save = some v → P v.snapshot) :
    ProfileStore.every { z with save := save } P := ⟨h.1, hs⟩

theorem ProfileStore.every.cut (h : z.every P) : z.cut.every P := by
  unfold ProfileStore.cut
  split
  · exact h.putInvalid _ nofun
  · exact h

theorem ProfileStore.every.started (h : z.every P) : z.started.every P := by
  unfold ProfileStore.started
  split
  · exact h.cut.putInvalid 0 h.cut.2
  · exact h.cut

theorem factory_ordered : Profile.Ordered factoryProfile where
  gains := fun i => by
    have items : factoryProfile.meters[i] = factoryMeterItems := Vector.getElem_replicate i.isLt
    rw [items]
    unfold MeterItems.limitsSafe
    decide
  meshes := loadedMeshes_safe (by decide) fun i => by
    have none (i : Fin 8) : factoryProfile.meshes[i] = none := Vector.getElem_replicate i.isLt
    rw [none]
    trivial
  views := reset_viewsSafe
  refs := ⟨rfl, fun i e h => by
    have none : factoryProfile.table[i] = none := Vector.getElem_replicate i.isLt
    rw [none] at h
    cases h⟩

/-- The configuration that slot 0 gives is in order: the profile in it, or the factory configuration (R165). -/
theorem startChoice_ordered (h : z.every Profile.Ordered) : Profile.Ordered z.startChoice.1 := by
  rw [ProfileStore.startChoice, startConfiguration_profile]
  split
  · next q check hq =>
    split
    · exact h.cut.1 0 q check hq
    · exact factory_ordered
  · exact factory_ordered

end

/-! ### The state's stores in order -/

/-- Gains, meshes, views and references in order, with the same of every profile held (R49, R60, R61, R63, R72, R73, R79). -/
structure State.StoresOrdered (s : State) : Prop where
  gains : s.gainsSafe
  mesh : s.mesh.safe
  views : viewsSafe s.views
  refs : s.refsSafe
  profiles : s.prf.every Profile.Ordered

/-- `t` holds the stores of `s`, and no latched view but that of `s`. -/
structure State.StoresFrom (s t : State) : Prop where
  meters : ∀ i : Fin 4, (t.cams[i]).meter = (s.cams[i]).meter
  mesh : t.mesh = s.mesh
  views : t.views = s.views
  sel : t.sel = s.sel
  latched : ∀ n, t.comp.latchedView = some n → s.comp.latchedView = some n
  prf : t.prf = s.prf

section
variable {s t : State}

theorem State.StoresOrdered.congr (h : s.StoresOrdered) (same : s.StoresFrom t) : t.StoresOrdered where
  gains := fun i => by
    rw [same.meters]
    exact h.gains i
  mesh := same.mesh ▸ h.mesh
  views := same.views ▸ h.views
  refs := by
    obtain ⟨names, selected, latched⟩ := (refsSafe_iff s).1 h.refs
    simp only [definedView_eq] at selected latched
    refine (refsSafe_iff t).2 ?_
    simp only [definedView_eq, same.sel, same.views]
    exact ⟨names, selected, fun n hn => latched n (same.latched n hn)⟩
  profiles := same.prf ▸ h.profiles

/-- What the clock, the output, the signals, the status unit, the link port, the composer's counters and the queue hold is no store. -/
theorem State.StoresOrdered.rest (h : s.StoresOrdered) (cams : t.cams = s.cams := by rfl) (mesh : t.mesh = s.mesh := by rfl)
    (views : t.views = s.views := by rfl) (sel : t.sel = s.sel := by rfl)
    (latched : ∀ n, t.comp.latchedView = some n → s.comp.latchedView = some n := by exact fun _ hn => hn)
    (prf : t.prf = s.prf := by rfl) : t.StoresOrdered :=
  h.congr ⟨fun i => by rw [cams], mesh, views, sel, latched, prf⟩

theorem State.StoresOrdered.settle (h : s.StoresOrdered) : s.settle.StoresOrdered := h.rest

theorem State.StoresOrdered.names (h : s.StoresOrdered) : s.sel.NamesDefined s.views := ((refsSafe_iff s).1 h.refs).1

theorem State.StoresOrdered.latched (h : s.StoresOrdered) : ∀ n, s.comp.latchedView = some n → s.definedView n = true :=
  ((refsSafe_iff s).1 h.refs).2.2

/-! ### One store changed -/

theorem State.StoresOrdered.withCams (h : s.StoresOrdered) {cams : Vector Cam 4}
    (hc : ∀ i : Fin 4, (cams[i]).meter.InLimits) : State.StoresOrdered { s with cams := cams } :=
  ⟨hc, h.mesh, h.views, h.refs, h.profiles⟩

/-- The cameras replaced by ones with the same metering units. -/
theorem State.StoresOrdered.sameMeters (h : s.StoresOrdered) {cams : Vector Cam 4}
    (hc : ∀ i : Fin 4, (cams[i]).meter = (s.cams[i]).meter) : State.StoresOrdered { s with cams := cams } :=
  h.congr ⟨hc, rfl, rfl, rfl, fun _ hn => hn, rfl⟩

theorem State.StoresOrdered.setCam (h : s.StoresOrdered) (i : Fin 4) {c : Cam} (hc : c.meter.InLimits) :
    (s.setCam i c).StoresOrdered :=
  h.withCams fun j => by
    show ((s.setCam i c).cams[j]).meter.InLimits
    rw [State.setCam_cases]
    split
    · exact hc
    · exact h.gains j

theorem State.StoresOrdered.flushCam (h : s.StoresOrdered) (i : Fin 4) {c : Cam} (hc : c.meter.InLimits) :
    (s.flushCam i c).StoresOrdered :=
  (h.setCam i hc).rest (by simp) (by simp) (by simp) (by simp)
    (fun n hn => (flushCam_latchedView s i c).symm.trans hn) (by simp)

theorem State.StoresOrdered.withMesh (h : s.StoresOrdered) {m : MeshStore} (hm : m.safe) :
    State.StoresOrdered { s with mesh := m } :=
  ⟨h.gains, hm, h.views, h.refs, h.profiles⟩

theorem State.StoresOrdered.withProfiles (h : s.StoresOrdered) {z : ProfileStore} (hz : z.every Profile.Ordered) :
    State.StoresOrdered { s with prf := z } :=
  ⟨h.gains, h.mesh, h.views, h.refs, hz⟩

/-- A view replaced: a new one is in order, and a view that is named stays defined. -/
theorem State.StoresOrdered.putView (h : s.StoresOrdered) (n : Fin 16) {new : Option View}
    (hv : ∀ v, new = some v → View.safe v) (hn : s.refsSafe → (s.putView n new).refsSafe) :
    (s.putView n new).StoresOrdered :=
  ⟨h.gains, h.mesh, viewsSafe_set h.views hv, hn h.refs, h.profiles⟩

/-- The selector replaced by one that names defined views and has selected one. -/
theorem State.StoresOrdered.withSel (h : s.StoresOrdered) {z : Selector} (names : z.NamesDefined s.views)
    (selected : definedIn s.views z.selected = true) : State.StoresOrdered { s with sel := z } :=
  ⟨h.gains, h.mesh, h.views, (refsSafe_iff _).2 ⟨names, selected, h.latched⟩, h.profiles⟩

/-- The selector replaced by one that names defined views, and a re-evaluation (R147). -/
theorem State.StoresOrdered.reselect (h : s.StoresOrdered) {z : Selector} (hz : z.NamesDefined s.views) :
    (State.reevaluate { s with sel := z }).StoresOrdered := by
  unfold State.reevaluate
  obtain ⟨names, selected⟩ := (hz.judge s.sig.values s.timeBase s.clock).choose s.timeBase
  exact h.withSel names selected

theorem State.StoresOrdered.reevaluate (h : s.StoresOrdered) : s.reevaluate.StoresOrdered := h.reselect h.names

end

end Sys2Proof.Machine
end

section
/-! The state's stores in order, continued: resets, the arrival of a frame, and the owners of the requests. -/

namespace Sys2Proof.Machine

/-! ### A wake and the events of the signal unit (R135, R139) -/

section
variable {s t : State}

theorem wake_meter (c : Cam) (now : Nat) : (c.wake now).meter = c.meter := by
  unfold Cam.wake
  split <;> rfl

theorem State.StoresOrdered.wake (h : s.StoresOrdered) : s.wake.StoresOrdered := by
  unfold State.wake
  split
  · have woken (i : Fin 4) : ((mapTable (fun c : Cam => c.wake s.clock) s.cams)[i]).meter = (s.cams[i]).meter := by
      have e : (mapTable (fun c : Cam => c.wake s.clock) s.cams)[i] = (s.cams[i]).wake s.clock := mapTable_get _ _ i.val i.isLt
      rw [e, wake_meter]
    exact (h.sameMeters woken).rest
  · exact h

theorem State.StoresOrdered.handOn (h : s.StoresOrdered) (before : SignalUnit) : (s.handOn before).StoresOrdered := by
  have judged : (if s.sig.values = before.values then s else s.reevaluate).StoresOrdered := by
    split
    · exact h
    · exact h.reevaluate
  unfold State.handOn
  generalize (if s.sig.values = before.values then s else s.reevaluate) = u at judged ⊢
  dsimp only
  split
  · exact judged.rest
  · exact judged

theorem State.StoresOrdered.signalEvent (h : s.StoresOrdered) (u : SignalUnit) : (s.signalEvent u).StoresOrdered := by
  have taken : ({ s with sig := u } : State).StoresOrdered := h.rest
  unfold State.signalEvent
  dsimp only
  split
  · exact taken.wake.handOn _
  · exact taken.handOn _

/-- The same at a timer's instant. -/
theorem State.StoresOrdered.atInstant (h : s.StoresOrdered) (d : Timer) : (s.atInstant d).StoresOrdered := h.rest

/-! ### Resets (R59, R72, R94, R155, R165, R166) -/

theorem restart_inLimits (c : Cam) (config : PortConfig) {items : MeterItems} (now : Nat)
    (h : MeterItems.limitsSafe items) : (c.restart config items now).meter.InLimits :=
  ⟨h, clampNat_within h.2.1⟩

/-- A reset leaves the stores as the configuration it starts from has them (R166). -/
theorem restart_storesOrdered {p : Profile} (hp : Profile.Ordered p) (hz : s.prf.every Profile.Ordered) (fault : Bool) :
    ((s.restartBlocks p).restartStatus fault).StoresOrdered := by
  have blocks : (s.restartBlocks p).StoresOrdered := by
    refine ⟨fun i => ?_, hp.meshes, hp.views, (refsSafe_iff _).2 ?_, hz⟩
    · rw [restartBlocks_cam]
      exact restart_inLimits _ _ _ (hp.gains i)
    · have fresh : (freshSelector p s.timeBase).NamesDefined p.views := namesDefined_of_profile hp.refs rfl rfl rfl
      rw [restartBlocks_sel]
      obtain ⟨names, selected⟩ :=
        (fresh.judge (s.restartBlocks p).sig.values s.timeBase s.clock).choose s.timeBase
      exact ⟨names, selected, nofun⟩
  rw [restartStatus_eq]
  exact blocks.rest

theorem State.StoresOrdered.softReset (h : s.StoresOrdered) : s.softReset.StoresOrdered := by
  rw [softReset_eq]
  exact restart_storesOrdered (startChoice_ordered h.profiles) h.profiles.started _

theorem State.StoresOrdered.powerOn (h : s.StoresOrdered) (rate : Fin 4) : (s.powerOn rate).StoresOrdered := by
  rw [powerOn_eq]
  exact restart_storesOrdered (startChoice_ordered h.profiles) h.profiles.started _

/-! ### Collisions and the arrival of a frame (R170, R173) -/

theorem State.StoresOrdered.afterReply (h : s.StoresOrdered) (r : Reply) : (s.afterReply r).StoresOrdered := by
  unfold State.afterReply
  split
  · exact h.softReset
  · exact h

theorem State.StoresOrdered.controllerByte (h : s.StoresOrdered) : s.controllerByte.StoresOrdered := by
  unfold State.controllerByte
  split
  · unfold State.collide
    split
    · refine State.StoresOrdered.afterReply ?_ _
      exact h.rest
    · exact h.rest
  · exact h

theorem State.StoresOrdered.receiveByte (h : s.StoresOrdered) (b : Byte) (f : Bool) : (s.receiveByte b f).1.StoresOrdered :=
  h.controllerByte.rest

theorem State.StoresOrdered.receiveQuiet (h : s.StoresOrdered) {bytes : List Byte} (hr : s.receiveQuiet bytes = some t) :
    t.StoresOrdered := by
  induction bytes generalizing s with
  | nil => exact Option.some.inj hr ▸ h
  | cons b rest ih =>
    unfold State.receiveQuiet at hr
    split at hr
    · next u hu => exact ih (by simpa only [hu] using h.receiveByte b false) hr
    · cases hr

theorem State.StoresOrdered.receiveLast (h : s.StoresOrdered) {bytes : List Byte} {last : Byte} {f : Bool} {e : RxEvent}
    (hr : s.receiveLast bytes last f = some (t, e)) : t.StoresOrdered := by
  unfold State.receiveLast at hr
  rw [Option.map_eq_some_iff] at hr
  obtain ⟨u, hu, hl⟩ := hr
  simpa only [hl] using (h.receiveQuiet hu).receiveByte last f

theorem State.StoresOrdered.frameArrives (h : s.StoresOrdered) : s.frameArrives.StoresOrdered := by
  unfold State.frameArrives
  dsimp only
  split
  · refine State.StoresOrdered.settle (State.StoresOrdered.wake ?_)
    exact h.controllerByte.rest
  · exact h.controllerByte.rest

/-! ### Events and requests -/

/-- An event keeps the stores in order when its effect does. -/
theorem event_storesOrdered {occurs : Bool} {effect : State → State} (h : s.StoresOrdered)
    (hx : event s occurs effect = .next t) (he : (effect s).StoresOrdered) : t.StoresOrdered := by
  rcases event_cases hx with rfl | ⟨-, -, rfl⟩
  · exact h
  · exact he.settle

/-- A request keeps the stores in order when its owner's answer does. -/
theorem request_storesOrdered {type : Byte} {g : Header} {lengthOk : Bool} {owner : State → Answer} (h : s.StoresOrdered)
    (hx : request type g lengthOk owner s = .next t)
    (ho : ∀ u : State, u.StoresOrdered → (owner u).state.StoresOrdered) : t.StoresOrdered := by
  rcases request_cases hx with rfl | ⟨-, ⟨-, rfl⟩ | ⟨-, rfl⟩⟩
  · exact h
  · exact (ho _ h.frameArrives).rest
  · exact h.frameArrives.rest

/-! ### What the cameras' operations leave of the metering unit -/

section
variable (c : Cam)

theorem repairLines_meter (first count : Nat) : (c.repairLines first count).meter = c.meter := by
  induction count generalizing c first with
  | zero => rfl
  | succ count ih => exact ih _ _

theorem takeLine_meter (index : BitVec 16) (pixels : List Pixel) (check : BitVec 16) :
    (c.takeLine index pixels check).meter = c.meter := by
  unfold Cam.takeLine
  dsimp only
  split
  · rfl
  · split <;> exact repairLines_meter _ _ _

theorem startFrame_meter {d : Cam} {number : Byte} {n : Nat} (h : c.startFrame number n = some d) : d.meter = c.meter := by
  unfold Cam.startFrame at h
  dsimp only at h
  rw [Option.map_eq_some_iff] at h
  obtain ⟨r, -, rfl⟩ := h
  rfl

variable {c}

theorem load_meter_inLimits (config : PortConfig) {items : MeterItems} (now : Nat) (h : MeterItems.limitsSafe items) :
    (c.load config items now).meter.InLimits := by
  have loaded := load_inLimits c.meter h
  unfold Cam.load
  dsimp only
  split
  · exact loaded
  · split <;> exact loaded
  · exact loaded.flush
  · exact loaded.flush

end

/-! ### The owners of the cameras' requests (R4 to R8, R57, R138) -/

section
variable (h : s.StoresOrdered)
include h

theorem onCamera_storesOrdered {cam : Nat} {f : Fin 4 → Answer} (hf : ∀ i, (f i).state.StoresOrdered) :
    (onCamera cam s f).state.StoresOrdered := by
  unfold onCamera
  split
  · exact hf _
  · exact h

theorem answerSetCameraConfig_stores (cam : Nat) (items : PortItems) :
    (answerSetCameraConfig cam items s).state.StoresOrdered := by
  refine onCamera_storesOrdered h fun i => ?_
  dsimp only
  split
  · exact h
  · split
    · exact h
    · exact h.setCam i (h.gains i)

theorem answerCameraEnable_stores (cam : Nat) : (answerCameraEnable cam s).state.StoresOrdered := by
  refine onCamera_storesOrdered h fun i => ?_
  split
  · exact h.setCam i (h.gains i)
  · exact h

theorem answerCameraDisable_stores (cam : Nat) : (answerCameraDisable cam s).state.StoresOrdered := by
  refine onCamera_storesOrdered h fun i => ?_
  split
  · exact h
  · exact h.flushCam i (Meter.InLimits.flush (h.gains i))

theorem answerCameraRetrain_stores (cam : Nat) : (answerCameraRetrain cam s).state.StoresOrdered := by
  refine onCamera_storesOrdered h fun i => ?_
  split
  · exact h
  · exact h
  · exact h.flushCam i (Meter.InLimits.flush (h.gains i))

theorem answerSetMetering_stores (cam : Nat) (items : MeterItems) : (answerSetMetering cam items s).state.StoresOrdered := by
  refine onCamera_storesOrdered h fun i => ?_
  dsimp only
  split
  · next hv => exact h.setCam i (configure_inLimits _ (valid_limitsSafe hv))
  · exact h

theorem answerEnterStandby_stores : (answerEnterStandby s).state.StoresOrdered := by
  unfold answerEnterStandby
  split
  · exact h
  · have inLimits (i : Fin 4) :
        ((mapTable (fun c : Cam => if c.port.config.enabled then c.enterStandby s.clock else c) s.cams)[i]).meter.InLimits := by
      have e : (mapTable (fun c : Cam => if c.port.config.enabled then c.enterStandby s.clock else c) s.cams)[i] =
          if (s.cams[i]).port.config.enabled then (s.cams[i]).enterStandby s.clock else s.cams[i] :=
        mapTable_get _ _ i.val i.isLt
      rw [e]
      split
      · exact Meter.InLimits.flush (h.gains i)
      · exact h.gains i
    exact (h.withCams inLimits).rest (latched := nofun)

/-! ### The owners of the mesh store's requests (R64 to R69) -/

theorem answerMeshBegin_stores (slot cols rows : Nat) : (answerMeshBegin slot cols rows s).state.StoresOrdered := by
  unfold answerMeshBegin
  split
  · exact h
  · next i _ =>
    split
    · exact h
    split
    · exact h
    split
    · exact h
    split
    · exact h
    · next idle _ room =>
      have noUpload : s.mesh.upload = none := by simpa using idle
      have charge := charge_put s.mesh i (.loading cols rows [])
      have part := slot_charge_le s.mesh i
      have loading : MeshSlot.charge (.loading cols rows []) = cols * rows := rfl
      refine h.withMesh (h.mesh.replace (fun u hu => ?_) (fun u hu => ?_) (by omega) ⟨Nat.zero_le _, nofun⟩ ⟨_, rfl, rfl, rfl⟩)
      · rw [noUpload] at hu
        cases hu
      · cases hu
        rfl

/-- A sequence abort ends the upload in progress (R67). -/
theorem abortUpload_stores {i : Fin 8} (hi : ∀ u, s.mesh.upload = some u → u.slot = i) :
    (s.abortUpload i).state.StoresOrdered :=
  (h.withMesh (h.mesh.endUpload hi)).rest

/-- The slot of the upload in progress is LOADING, with as many rows held as next row says (R63). -/
theorem upload_held {i : Fin 8} {u : Upload} {cols rows : Nat} {held : List (List Node)} (hu : s.mesh.upload = some u)
    (hs : s.mesh.slots[i] = .loading cols rows held) :
    held.length = u.nextRow ∧ held.length ≤ rows ∧ ∀ row ∈ held, row.length = cols := by
  obtain ⟨-, slots, context⟩ := (meshSafe_iff _).1 h.mesh
  have fits := slots i
  have agrees := context i
  rw [hs] at fits agrees
  obtain ⟨v, hv, -, hl⟩ := agrees
  cases hu.symm.trans hv
  exact ⟨hl, fits⟩

theorem answerMeshRows_stores (slot row : Nat) (nodes : List Node) :
    (answerMeshRows slot row nodes s).state.StoresOrdered := by
  unfold answerMeshRows
  split
  · exact h
  · next i _ =>
    split
    · next u cols rows held hu hs =>
      split
      · exact h
      · next same =>
        have named : ∀ v, s.mesh.upload = some v → v.slot = i := fun v hv => by
          cases hu.symm.trans hv
          exact not_not.1 same
        split
        · exact abortUpload_stores h named
        · next inOrder =>
          push Not at inOrder
          obtain ⟨-, more, whole⟩ := inOrder
          obtain ⟨length, -, widths⟩ := upload_held h hu hs
          refine h.withMesh (h.mesh.replace named (fun v hv => by cases hv; rfl) ?_ ⟨?_, ?_⟩ ⟨_, rfl, rfl, ?_⟩)
          · exact put_charge_le h.mesh.1 (by rw [hs]; exact le_refl _)
          · simp only [List.length_append, List.length_singleton]
            omega
          · intro r hr
            rcases List.mem_append.1 hr with hr | hr
            · exact widths r hr
            · rw [List.mem_singleton.1 hr, whole]
          · rw [List.length_append, length]
            rfl
    · exact h

theorem answerMeshEnd_stores (slot : Nat) : (answerMeshEnd slot s).state.StoresOrdered := by
  unfold answerMeshEnd
  split
  · exact h
  · next i _ =>
    split
    · next u cols rows held hu hs =>
      split
      · exact h
      · next same =>
        have named : ∀ v, s.mesh.upload = some v → v.slot = i := fun v hv => by
          cases hu.symm.trans hv
          exact not_not.1 same
        split
        · exact abortUpload_stores h named
        · next all =>
          obtain ⟨length, most, widths⟩ := upload_held h hu hs
          refine h.withMesh (h.mesh.replace named nofun ?_ ⟨?_, widths⟩ nofun)
          · exact put_charge_le h.mesh.1 (by rw [hs]; exact le_refl _)
          · show held.length = rows
            omega
    · exact h

theorem answerMeshFree_stores (slot : Nat) : (answerMeshFree slot s).state.StoresOrdered := by
  unfold answerMeshFree
  split
  · exact h
  · next i _ =>
    split
    · exact h
    · refine h.withMesh ?_
      split
      · exact h.mesh
      · next mesh hr => exact h.mesh.freeReady hr
      · next cols rows held hs =>
        have agrees := ((meshSafe_iff _).1 h.mesh).2.2 i
        rw [hs] at agrees
        obtain ⟨v, hv, hi, -⟩ := agrees
        exact h.mesh.endUpload fun u hu => by
          cases hv.symm.trans hu
          exact hi

/-! ### The owners of the view table's requests (R76, R80, R86, R87) -/

/-- A view defined, anew or again, leaves every named view defined (R77, R79). -/
theorem State.StoresOrdered.defineView (n : Fin 16) {v : View} (hv : View.safe v) : (s.putView n (some v)).StoresOrdered := by
  refine h.putView n (fun w hw => Option.some.inj hw ▸ hv) fun refs => ?_
  obtain ⟨names, selected, latched⟩ := (refsSafe_iff s).1 refs
  have more (k : Fin 16) (hk : definedIn s.views k = true) : definedIn (s.views.set n (some v)) k = true := by
    rw [definedIn_set]
    split
    · rfl
    · exact hk
  exact (refsSafe_iff _).2 ⟨names.mono more, more _ selected, fun k hk => more k (latched k hk)⟩

theorem answerDefineView_stores (view : Nat) (tiles : List TileFields) :
    (answerDefineView view tiles s).state.StoresOrdered := by
  unfold answerDefineView
  split
  · next n ts _ made =>
    have overlays : (((s.views[n]).map View.overlays).getD []).length ≤ 24 ∧
        totalCost (((s.views[n]).map View.overlays).getD []) ≤ 48 := by
      cases hv : s.views[n] with
      | none => exact ⟨Nat.zero_le _, Nat.zero_le _⟩
      | some v =>
        obtain ⟨-, -, -, -, few, cheap⟩ := h.views n v hv
        exact ⟨few, cheap⟩
    exact h.defineView n (tilesOf_safe made overlays.1 overlays.2)
  · exact h

theorem answerOverlayClear_stores (view : Nat) : (answerOverlayClear view s).state.StoresOrdered := by
  unfold answerOverlayClear
  split
  · exact h
  · next n _ =>
    split
    · exact h
    · next v hv =>
      obtain ⟨one, four, inside, apart, -, -⟩ := h.views n v hv
      exact h.defineView n ⟨one, four, inside, apart, Nat.zero_le _, Nat.zero_le _⟩

theorem answerOverlayAppend_stores (view : Nat) (prims : List PrimFields) :
    (answerOverlayAppend view prims s).state.StoresOrdered := by
  unfold answerOverlayAppend
  split
  · exact h
  · next n _ =>
    split
    · exact h
    · exact h
    · next v ps hv _ =>
      dsimp only
      split
      · exact h
      · next fits =>
        push Not at fits
        obtain ⟨one, four, inside, apart, -, -⟩ := h.views n v hv
        exact h.defineView n ⟨one, four, inside, apart, fits.1, fits.2⟩

/-- A view that nothing refers to can go (R79, R80). -/
theorem deleteView_refsSafe {n : Fin 16} (hn : s.viewReferenced n = false) : (s.putView n none).refsSafe := by
  simp only [State.viewReferenced, Bool.or_eq_false_iff, beq_eq_false_iff_ne, List.any_eq_false, beq_iff_eq] at hn
  obtain ⟨⟨⟨⟨default, override⟩, selected⟩, latched⟩, entries⟩ := hn
  obtain ⟨names, selectedDefined, latchedDefined⟩ := (refsSafe_iff s).1 h.refs
  have other (k : Fin 16) (hk : k ≠ n) (hd : definedIn s.views k = true) : definedIn (s.views.set n none) k = true := by
    rw [definedIn_set, if_neg hk.symm]
    exact hd
  refine (refsSafe_iff _).2 ⟨⟨other _ default names.default, fun o ho => other _ ?_ (names.override o ho),
    fun i e he => other _ ?_ (names.entries i e he)⟩, other _ selected selectedDefined,
    fun k hk => other _ ?_ (latchedDefined k hk)⟩
  · rintro rfl
    exact override (congrArg (Option.map Override.view) ho)
  · rintro rfl
    refine entries (some e) ?_ rfl
    exact he ▸ Vector.mem_toList_iff.2 (Vector.getElem_mem i.isLt)
  · rintro rfl
    exact latched hk

theorem answerDeleteView_stores (view : Nat) : (answerDeleteView view s).state.StoresOrdered := by
  unfold answerDeleteView
  split
  · exact h
  · next n _ =>
    split
    · exact h
    · split
      · exact h
      · next hn => exact h.putView n nofun fun _ => deleteView_refsSafe h (by simpa using hn)

theorem answerReadView_stores (view : Nat) (part : ViewPart) : (answerReadView view part s).state.StoresOrdered := by
  unfold answerReadView
  split
  · exact h
  · split
    · exact h
    · exact h
    · exact h
    · split <;> exact h
    · split <;> exact h

/-! ### The owners of the selector's requests (R149 to R153) -/

theorem answerSetEntry_stores (entry : Nat) (fields : EntryFields) : (answerSetEntry entry fields s).state.StoresOrdered := by
  unfold answerSetEntry
  split
  · next i c _ _ =>
    split
    · exact h
    · next hd =>
      refine h.reselect (h.names.setEntry i fun e he => ?_)
      cases he
      show definedIn s.views c.view = true
      simpa [definedView_eq] using hd
  · exact h

theorem answerClearEntry_stores (entry : Nat) : (answerClearEntry entry s).state.StoresOrdered := by
  unfold answerClearEntry
  split
  · exact h
  · next i _ => exact h.reselect (h.names.setEntry i nofun)

theorem answerSetDefault_stores (view : Nat) : (answerSetDefault view s).state.StoresOrdered := by
  unfold answerSetDefault
  split
  · exact h
  · next n _ =>
    split
    · exact h
    · next hd => exact h.reselect ⟨by simpa [definedView_eq] using hd, h.names.override, h.names.entries⟩

theorem answerOverride_stores (view rank duration : Nat) : (answerOverride view rank duration s).state.StoresOrdered := by
  unfold answerOverride
  split
  · exact h
  · next n _ =>
    split
    · exact h
    · split
      · exact h
      · next hd =>
        refine h.reselect ⟨h.names.default, fun o ho => ?_, h.names.entries⟩
        cases ho
        simpa [definedView_eq] using hd

theorem State.StoresOrdered.endOverride : s.endOverride.StoresOrdered :=
  h.reselect ⟨h.names.default, nofun, h.names.entries⟩

theorem answerCancelOverride_stores : (answerCancelOverride s).state.StoresOrdered := by
  unfold answerCancelOverride
  split
  · exact h.endOverride
  · exact h

theorem answerReadSelection_stores (part : SelectionPart) : (answerReadSelection part s).state.StoresOrdered := by
  unfold answerReadSelection
  split
  · exact h
  · split <;> exact h
  · exact h

/-! ### The owners of the other requests -/

theorem answerSetSignalConfig_stores (fields : SignalConfigFields) :
    (answerSetSignalConfig fields s).state.StoresOrdered := by
  unfold answerSetSignalConfig
  split
  · exact h.signalEvent _
  · exact h

theorem acceptOutput_stores (d : Display) : (acceptOutput s d).state.StoresOrdered := h.rest

theorem answerOutputHold_stores : (answerOutputHold s).state.StoresOrdered := by
  unfold answerOutputHold
  split
  · exact h
  · split
    · exact h
    · exact acceptOutput_stores h _

theorem answerOutputResume_stores : (answerOutputResume s).state.StoresOrdered := by
  unfold answerOutputResume
  split
  · exact acceptOutput_stores h _
  · exact acceptOutput_stores h _
  · exact h

theorem answerSetOutputTiming_stores (timing : Nat) : (answerSetOutputTiming timing s).state.StoresOrdered := by
  unfold answerSetOutputTiming
  split
  · exact h
  · split
    · exact acceptOutput_stores h _
    · exact h

theorem answerReadError_stores : (answerReadError s).state.StoresOrdered := by
  unfold answerReadError
  split
  · exact h
  · exact h.rest

/-! ### The owners of the profile store's requests (R162 to R164) -/

/-- The snapshot of a state in order is a profile in order (R162). -/
theorem snapshot_ordered : Profile.Ordered s.snapshot where
  gains := fun i => by
    have e : s.snapshot.meters[i] = (s.cams[i]).meter.config := mapTable_get _ _ i.val i.isLt
    rw [e]
    exact (h.gains i).1
  meshes := h.mesh.saved
  views := h.views
  refs := ⟨h.names.default, fun i c hc => by
    have e : s.snapshot.table[i] = (s.sel.entries[i]).map Entry.config := mapTable_get _ _ i.val i.isLt
    rw [e, Option.map_eq_some_iff] at hc
    obtain ⟨entry, he, rfl⟩ := hc
    exact h.names.entries i entry he⟩

theorem answerSaveProfile_stores (slot : Nat) : (answerSaveProfile slot s).state.StoresOrdered := by
  unfold answerSaveProfile
  split
  · exact h
  · split
    · exact h
    · refine h.withProfiles (h.profiles.withSave fun v hv => ?_)
      cases hv
      exact snapshot_ordered h

theorem completeSave_stores {v : Save} (hv : s.prf.save = some v) (verified : Bool) :
    (s.completeSave v verified).StoresOrdered := by
  have snapshot : Profile.Ordered v.snapshot := h.profiles.2 v hv
  have unsaved (w : Save) (hw : none = some w) : Profile.Ordered w.snapshot := by cases hw
  cases verified with
  | false => exact (h.withProfiles (h.profiles.putInvalid v.slot unsaved)).rest
  | true =>
    refine (h.withProfiles (h.profiles.put v.slot (x := validSlot v.snapshot) (fun p check e => ?_) unsaved)).rest
    cases e
    exact snapshot

/-- An accepted load leaves the stores as the profile has them (R59, R72, R155, R164). -/
theorem loadProfile_stores {p : Profile} (hp : Profile.Ordered p) (hm : s.sig.movingValue = false) :
    (s.loadProfile p).StoresOrdered := by
  have whole := loadProfile_eq s p hm
  refine ⟨fun i => ?_, ?_, ?_, (refsSafe_iff _).2 ?_, ?_⟩
  · rw [loadProfile_cam hm]
    exact load_meter_inLimits _ _ (hp.gains i)
  · rw [whole]
    exact hp.meshes
  · rw [whole]
    exact hp.views
  · have table : (s.sel.load p.table p.defaultView).NamesDefined p.views := namesDefined_of_profile hp.refs rfl rfl rfl
    have views : (s.loadProfile p).views = p.views := by rw [whole]
    obtain ⟨names, selected⟩ := (table.judge (s.sigLoaded p).values s.timeBase s.clock).choose s.timeBase
    simp only [definedView_eq, views, loadProfile_sel hm, loadProfile_latchedView hm]
    exact ⟨names, selected, nofun⟩
  · rw [whole]
    exact h.profiles

theorem answerLoadProfile_stores (slot : Nat) : (answerLoadProfile slot s).state.StoresOrdered := by
  unfold answerLoadProfile
  split
  · exact h
  · next n _ =>
    split
    · exact h
    · split
      · next p check hx =>
        split
        · exact (h.withProfiles (h.profiles.putInvalid n h.profiles.2)).rest
        · split
          · exact h
          · next hm => exact loadProfile_stores h (h.profiles.1 n p check hx) (by simpa using hm)
      · exact h

end
end

end Sys2Proof.Machine
end

section
/-! The stores in order, concluded: every command and every step keeps them. -/

namespace Sys2Proof.Machine

section
variable {s t : State} (h : s.StoresOrdered) {cam : Fin 4}
include h

/-! ### The camera links' events -/

theorem setCarrier_stores (cam : Fin 4) (level : Bool) : (s.setCarrier cam level).StoresOrdered := h.setCam cam (h.gains cam)

theorem execCarrierPresent_stores (hx : execCarrierPresent cam s = .next t) : t.StoresOrdered := by
  have noted := setCarrier_stores h cam true
  unfold execCarrierPresent at hx
  split at hx
  · refine event_storesOrdered h hx ?_
    dsimp only
    split
    · exact noted.setCam cam (noted.gains cam)
    · exact noted
  · exact Host.Outcome.next.inj hx ▸ noted

theorem execCarrierLost_stores (hx : execCarrierLost cam s = .next t) : t.StoresOrdered := by
  have noted := setCarrier_stores h cam false
  have lost : ((s.setCarrier cam false).flushCam cam
      (((s.setCarrier cam false).cams[cam]).loseCarrier s.clock)).StoresOrdered :=
    noted.flushCam cam (Meter.InLimits.flush (noted.gains cam))
  unfold execCarrierLost at hx
  split at hx
  · refine event_storesOrdered h hx ?_
    dsimp only
    split
    · exact lost
    · exact lost
    · exact lost
    · exact noted
  · exact Host.Outcome.next.inj hx ▸ noted

theorem execFrameStart_stores {number : Byte} (hx : execFrameStart cam number s = .next t) : t.StoresOrdered := by
  unfold execFrameStart at hx
  split at hx
  · split at hx
    · next c hc =>
      refine Host.Outcome.next.inj hx ▸ State.StoresOrdered.settle (h.setCam cam ?_)
      rw [startFrame_meter _ hc]
      exact h.gains cam
    · cases hx
  · exact Host.Outcome.next.inj hx ▸ h

theorem execLine_stores {index check : BitVec 16} {pixels : List Pixel}
    (hx : execLine cam index pixels check s = .next t) : t.StoresOrdered :=
  event_storesOrdered h hx (h.setCam cam (by rw [takeLine_meter]; exact h.gains cam))

theorem judgeFrame_stores {c : Cam} (hc : c.meter.InLimits) : (s.judgeFrame cam c).StoresOrdered := by
  unfold State.judgeFrame
  split
  · dsimp only
    split
    · exact h.setCam cam (hc.onFrame _ _ _)
    · split
      · exact h.flushCam cam hc.flush
      · exact h.setCam cam hc
  · exact h.setCam cam hc

theorem execFrameEnd_stores {lineCount : Nat} (hx : execFrameEnd cam lineCount s = .next t) : t.StoresOrdered :=
  event_storesOrdered h hx
    (judgeFrame_stores h (by rw [Cam.completeFrame, repairLines_meter]; exact h.gains cam))

/-! ### Output frame starts -/

/-- The cameras keep their metering units through the claims, and the view taken is the selected one, which is defined (R79, R96). -/
theorem composeView_stores {v : View} (hv : s.views[s.sel.selected] = some v) : (s.composeView v).StoresOrdered := by
  have claimed (i : Fin 4) : ((s.claimCams v)[i]).meter = (s.cams[i]).meter := by rw [claimCams_get]
  have selected : s.definedView s.sel.selected = true := by rw [State.definedView, hv]; rfl
  have taken (repeats : Nat) : State.StoresOrdered { s with
      cams := s.claimCams v, comp := s.comp.take (s.latch v (s.claimCams v)) repeats } := by
    have cams := h.sameMeters claimed
    refine ⟨cams.gains, h.mesh, h.views, (refsSafe_iff _).2 ⟨h.names, selected, fun n hn => ?_⟩, h.profiles⟩
    cases hn
    exact selected
  unfold State.composeView
  dsimp only
  split
  · exact (taken _).rest
  · exact taken _

theorem endComposedFrame_stores : s.endComposedFrame.StoresOrdered := by
  unfold State.endComposedFrame
  split
  · exact h
  · exact h.rest

theorem discardContext_stores : s.discardContext.StoresOrdered := h.rest (latched := nofun)

theorem startFrame_stores (hs : s.startFrame = some t) : t.StoresOrdered := by
  have ended := endComposedFrame_stores h
  unfold State.startFrame at hs
  split at hs
  · exact Option.some.inj hs ▸ h
  · exact Option.some.inj hs ▸ h.rest
  · exact Option.some.inj hs ▸ h.rest
  · exact Option.some.inj hs ▸ (discardContext_stores ended).rest
  · dsimp only at hs
    split at hs
    · exact Option.some.inj hs ▸ (discardContext_stores ended).rest
    · rw [Option.map_eq_some_iff] at hs
      obtain ⟨v, hv, rfl⟩ := hs
      exact (composeView_stores ended hv).rest

theorem execOutputFrameStart_stores (hx : execOutputFrameStart s = .next t) : t.StoresOrdered := by
  unfold execOutputFrameStart at hx
  split at hx
  · split at hx
    · next u hu => exact Host.Outcome.next.inj hx ▸ (startFrame_stores (h.atInstant _) hu).settle
    · cases hx
  · exact Host.Outcome.next.inj hx ▸ h

/-! ### Signals, selection, meshes and profiles -/

theorem execRawChange_stores {wire : Fin 6} {level : Bool} (hx : execRawChange wire level s = .next t) :
    t.StoresOrdered := by
  unfold execRawChange at hx
  split at hx
  · exact event_storesOrdered h hx (h.signalEvent _)
  · exact Host.Outcome.next.inj hx ▸ h.rest

theorem execSignalUpdate_stores {g : Header} {mask values : Byte × Byte} {speed : Byte}
    (hx : execSignalUpdate g mask values speed s = .next t) : t.StoresOrdered := by
  unfold execSignalUpdate at hx
  split at hx
  · dsimp only at hx
    split at hx
    · exact Host.Outcome.next.inj hx ▸ (h.frameArrives.signalEvent _).settle
    · exact Host.Outcome.next.inj hx ▸ h.frameArrives.settle
  · exact Host.Outcome.next.inj hx ▸ h

theorem execReleaseTimerExpiry_stores {entry : Fin 16} (hx : execReleaseTimerExpiry entry s = .next t) :
    t.StoresOrdered := by
  have moved := h.atInstant (s.releaseTimer entry)
  refine event_storesOrdered h hx (moved.reselect (moved.names.setEntry entry fun e he => ?_))
  rw [Option.map_eq_some_iff] at he
  obtain ⟨e', he', rfl⟩ := he
  exact h.names.entries entry e' he'

theorem execOverrideExpiry_stores (hx : execOverrideExpiry s = .next t) : t.StoresOrdered := by
  refine event_storesOrdered h hx (State.StoresOrdered.endOverride ?_)
  exact h.rest

theorem execMeshInactivityExpiry_stores (hx : execMeshInactivityExpiry s = .next t) : t.StoresOrdered := by
  refine event_storesOrdered h hx ?_
  split
  · next u hu =>
    have ended := h.mesh.endUpload (i := u.slot) fun v hv => by
      cases hu.symm.trans hv
      rfl
    exact (h.withMesh ended).rest
  · exact h

theorem execProfileSaveCompletion_stores {verified : Bool} (hx : execProfileSaveCompletion verified s = .next t) :
    t.StoresOrdered := by
  refine event_storesOrdered h hx ?_
  split
  · next v hv => exact completeSave_stores h hv verified
  · exact h

theorem execPowerLoss_stores (hx : execPowerLoss s = .next t) : t.StoresOrdered := by
  unfold execPowerLoss at hx
  split at hx
  · refine Host.Outcome.next.inj hx ▸ ?_
    rw [cutSave_eq]
    exact (h.withProfiles h.profiles.cut).rest
  · exact Host.Outcome.next.inj hx ▸ h

theorem execMeshRows_stores {g : Header} {slot row : Byte} {nodes : List Byte}
    (hx : execMeshRows g slot row nodes s = .next t) : t.StoresOrdered := by
  unfold execMeshRows at hx
  split at hx
  · exact request_storesOrdered h hx fun _ hu => answerMeshRows_stores hu _ _ _
  · exact request_storesOrdered h hx fun _ hu => hu

/-! ### The control link port -/

theorem execLinkFraming_stores {bytes : List Byte} {last : Byte} {f : Bool}
    (hx : execLinkFraming bytes last f s = .next t) : t.StoresOrdered := by
  unfold execLinkFraming at hx
  split at hx
  · split at hx
    · next hr => exact Host.Outcome.next.inj hx ▸ (h.receiveLast hr).rest
    · next hr => exact Host.Outcome.next.inj hx ▸ (h.receiveLast hr).settle
    · exact Host.Outcome.next.inj hx ▸ h
  · exact Host.Outcome.next.inj hx ▸ h

theorem execLinkGap_stores {bytes : List Byte} (hx : execLinkGap bytes s = .next t) : t.StoresOrdered := by
  unfold execLinkGap at hx
  split at hx
  · split at hx
    · next u hu =>
      have quiet := h.receiveQuiet hu
      split at hx
      · exact Host.Outcome.next.inj hx ▸ quiet.rest
      · refine Host.Outcome.next.inj hx ▸ ?_
        split
        · exact h
        · exact quiet.settle
    · exact Host.Outcome.next.inj hx ▸ h
  · exact Host.Outcome.next.inj hx ▸ h

theorem execLinkCheck_stores {bytes : List Byte} (hx : execLinkCheck bytes s = .next t) : t.StoresOrdered := by
  unfold execLinkCheck at hx
  split at hx
  · split at hx
    · next hr =>
      obtain ⟨last, -, hr⟩ := Option.bind_eq_some_iff.1 hr
      exact Host.Outcome.next.inj hx ▸ (h.receiveLast hr).rest
    · next hr =>
      obtain ⟨last, -, hr⟩ := Option.bind_eq_some_iff.1 hr
      exact Host.Outcome.next.inj hx ▸ (h.receiveLast hr).settle
    · exact Host.Outcome.next.inj hx ▸ h
  · exact Host.Outcome.next.inj hx ▸ h

theorem execUnknownType_stores {type : Byte} {g : Header} (hx : execUnknownType type g s = .next t) :
    t.StoresOrdered := by
  unfold execUnknownType at hx
  split at hx
  · exact Host.Outcome.next.inj hx ▸ h.frameArrives.rest
  · exact Host.Outcome.next.inj hx ▸ h

theorem execReplyEnd_stores (hx : execReplyEnd s = .next t) : t.StoresOrdered := by
  refine event_storesOrdered h hx ?_
  split
  · refine State.StoresOrdered.afterReply ?_ _
    exact h.rest
  · exact h

end

/-! ### Every command and every step -/

/-- Every command keeps the stores in order. -/
theorem exec_storesOrdered (c : Instr) (s t : State) (h : s.StoresOrdered) (hx : exec c s = .next t) : t.StoresOrdered := by
  cases c <;> dsimp only [exec] at hx
  case powerOnReset a b => exact Host.Outcome.next.inj hx ▸ h.powerOn _
  case powerLoss => exact execPowerLoss_stores h hx
  case carrierPresent cam => exact execCarrierPresent_stores h hx
  case carrierLost cam => exact execCarrierLost_stores h hx
  case trainingWord cam word => exact event_storesOrdered h hx (h.setCam cam (h.gains cam))
  case wordTimerExpiry cam => exact event_storesOrdered h hx ((h.atInstant _).setCam cam (h.gains cam))
  case frameStart cam number => exact execFrameStart_stores h hx
  case line cam index pixels check => exact execLine_stores h hx
  case frameEnd cam lineCount => exact execFrameEnd_stores (lineCount := lineCount) h hx
  case staleDeadlineExpiry cam => exact event_storesOrdered h hx ((h.atInstant _).setCam cam (h.gains cam))
  case lostDeadlineExpiry cam => exact event_storesOrdered h hx ((h.atInstant _).setCam cam (h.gains cam))
  case meshInactivityExpiry => exact execMeshInactivityExpiry_stores h hx
  case outputFrameStart => exact execOutputFrameStart_stores h hx
  case settleTimerExpiry => exact event_storesOrdered h hx h.rest
  case holdTimerExpiry => exact event_storesOrdered h hx h.rest
  case rawChange wire level => exact execRawChange_stores h hx
  case debounceTimerExpiry wire => exact event_storesOrdered h hx ((h.atInstant _).signalEvent _)
  case refreshTimerExpiry signal => exact event_storesOrdered h hx ((h.atInstant _).signalEvent _)
  case speedTimerExpiry => exact event_storesOrdered h hx ((h.atInstant _).signalEvent _)
  case releaseTimerExpiry entry => exact execReleaseTimerExpiry_stores h hx
  case overrideExpiry => exact execOverrideExpiry_stores h hx
  case profileSaveCompletion verified => exact execProfileSaveCompletion_stores h hx
  case linkFraming bytes last f => exact execLinkFraming_stores h hx
  case linkGap bytes => exact execLinkGap_stores h hx
  case linkCheck bytes => exact execLinkCheck_stores h hx
  case unknownType type g => exact execUnknownType_stores h hx
  case replyStart => exact event_storesOrdered h hx h.rest
  case replyEnd => exact execReplyEnd_stores h hx
  case noticeStart => exact event_storesOrdered h hx h.rest
  case noticeEnd => exact event_storesOrdered h hx h.rest
  case collision byte f => exact event_storesOrdered h hx (h.receiveByte byte f)
  case identify g => exact request_storesOrdered h hx fun _ hu => hu
  case resetPart g => exact request_storesOrdered h hx fun _ hu => hu
  case setCameraConfig g cam items => exact request_storesOrdered h hx fun _ hu => answerSetCameraConfig_stores hu _ _
  case cameraEnable g cam => exact request_storesOrdered h hx fun _ hu => answerCameraEnable_stores hu _
  case cameraDisable g cam => exact request_storesOrdered h hx fun _ hu => answerCameraDisable_stores hu _
  case cameraRetrain g cam => exact request_storesOrdered h hx fun _ hu => answerCameraRetrain_stores hu _
  case readCameraReport g cam => exact request_storesOrdered h hx fun _ hu => onCamera_storesOrdered hu fun _ => hu
  case setMetering g cam items => exact request_storesOrdered h hx fun _ hu => answerSetMetering_stores hu _ _
  case meshBegin g slot cols rows => exact request_storesOrdered h hx fun _ hu => answerMeshBegin_stores hu _ _ _
  case meshRows g slot row nodes => exact execMeshRows_stores h hx
  case meshEnd g slot => exact request_storesOrdered h hx fun _ hu => answerMeshEnd_stores hu _
  case meshFree g slot => exact request_storesOrdered h hx fun _ hu => answerMeshFree_stores hu _
  case defineView g view count tiles => exact request_storesOrdered h hx fun _ hu => answerDefineView_stores hu _ _
  case overlayClear g view => exact request_storesOrdered h hx fun _ hu => answerOverlayClear_stores hu _
  case overlayAppend g view count prims => exact request_storesOrdered h hx fun _ hu => answerOverlayAppend_stores hu _ _
  case deleteView g view => exact request_storesOrdered h hx fun _ hu => answerDeleteView_stores hu _
  case readView g view part => exact request_storesOrdered h hx fun _ hu => answerReadView_stores hu _ _
  case setSelectionEntry g entry fields => exact request_storesOrdered h hx fun _ hu => answerSetEntry_stores hu _ _
  case clearSelectionEntry g entry => exact request_storesOrdered h hx fun _ hu => answerClearEntry_stores hu _
  case setDefaultView g view => exact request_storesOrdered h hx fun _ hu => answerSetDefault_stores hu _
  case overrideView g view rank duration => exact request_storesOrdered h hx fun _ hu => answerOverride_stores hu _ _ _
  case cancelOverride g => exact request_storesOrdered h hx fun _ hu => answerCancelOverride_stores hu
  case readSelection g part => exact request_storesOrdered h hx fun _ hu => answerReadSelection_stores hu _
  case signalUpdate g mask values speed => exact execSignalUpdate_stores h hx
  case setSignalConfig g config => exact request_storesOrdered h hx fun _ hu => answerSetSignalConfig_stores hu _
  case readSignals g => exact request_storesOrdered h hx fun _ hu => hu
  case enterStandby g => exact request_storesOrdered h hx fun _ hu => answerEnterStandby_stores hu
  case outputEnable g => exact request_storesOrdered h hx fun _ hu => acceptOutput_stores hu _
  case outputDisable g => exact request_storesOrdered h hx fun _ hu => acceptOutput_stores hu _
  case outputHold g => exact request_storesOrdered h hx fun _ hu => answerOutputHold_stores hu
  case outputResume g => exact request_storesOrdered h hx fun _ hu => answerOutputResume_stores hu
  case setOutputTiming g timing => exact request_storesOrdered h hx fun _ hu => answerSetOutputTiming_stores hu _
  case readConditions g => exact request_storesOrdered h hx fun _ hu => hu
  case readEvents g => exact request_storesOrdered h hx fun _ hu => hu.rest
  case setEventEnable g mask => exact request_storesOrdered h hx fun _ hu => hu.rest
  case readError g => exact request_storesOrdered h hx fun _ hu => answerReadError_stores hu
  case saveProfile g slot => exact request_storesOrdered h hx fun _ hu => answerSaveProfile_stores hu _
  case loadProfile g slot => exact request_storesOrdered h hx fun _ hu => answerLoadProfile_stores hu _

/-- Settles O57: the order of the stores is kept by every command, and it looks at neither the queue, the clock nor the counter
of free values. -/
theorem stepKeepsStoresInOrder : Obligations.StepKeepsStoresInOrder := by
  intro s t gains gainsHeld mesh meshesHeld views viewsHeld refs refsHeld hx
  have held := (every_ordered_iff _).2 ⟨gainsHeld, meshesHeld, viewsHeld, refsHeld⟩
  have after : t.StoresOrdered := step_keeps (P := State.StoresOrdered) (fun _ _ h => h.rest) (fun _ _ h => h.rest)
    (fun _ _ h => h.rest) exec_storesOrdered ⟨gains, mesh, views, refs, held⟩ hx
  obtain ⟨gainsHeld, meshesHeld, viewsHeld, refsHeld⟩ := (every_ordered_iff _).1 after.profiles
  exact ⟨⟨after.gains, gainsHeld⟩, ⟨after.mesh, meshesHeld⟩, ⟨after.views, viewsHeld⟩, ⟨after.refs, refsHeld⟩⟩

end Sys2Proof.Machine
end

section
/-! The gain follower, the assessment and SET_METERING (R45 to R49, R53 to R55, R57, R58). -/

namespace Sys2Proof.Machine

/-! ### The gain follower (R48) -/

/-- A step of the gain follower, in the integers. -/
theorem gainStep_eq (m : MeterItems) (mean gain : Nat) :
    (gainStep m mean gain : Int) =
      let d : Int := (wantedGain m.target mean : Int) - gain
      if |d| ≤ m.deadBand then (gain : Int)
      else max (m.gainMin : Int) (min ((gain : Int) + max (-(m.slew : Int)) (min d m.slew)) m.gainMax) := by
  unfold gainStep
  dsimp only
  generalize (wantedGain m.target mean : Int) - gain = d
  have within : d.natAbs ≤ m.deadBand ↔ |d| ≤ m.deadBand := by
    rw [Int.abs_eq_natAbs, Int.ofNat_le]
  by_cases h : |d| ≤ m.deadBand
  · rw [if_pos (within.2 h), if_pos h]
  · rw [if_neg (mt within.1 h), if_neg h]
    exact Int.toNat_of_nonneg (le_max_of_le_left (Int.natCast_nonneg _))

/-- Settles O23: an accepted frame takes one step of the gain follower. -/
theorem gainStepsTowardTheTarget : Obligations.GainStepsTowardTheTarget := by
  intro m u p rows win mean d
  rw [onFrame_gain, gainStep_eq]
  rfl

/-! ### The assessment (R53, R54) -/

/-- The gate is open (R53), written out. -/
theorem gateOpen_eq (u : SignalUnit) (g : Gate) : gateOpen u g = match g with
    | .ungated => true
    | .moving => u.signals[u.config.moving].value
    | .signal n => if h : n < 16 then u.signals[n].value else false := by
  cases g with
  | ungated => rfl
  | moving => rfl
  | signal n =>
    show ((tableGet? u.signals n).map SignalRecord.value).getD false = if h : n < 16 then u.signals[n].value else false
    unfold tableGet?
    split <;> rfl

section
variable (m : Meter) (u : SignalUnit) (p : PortItems) (rows : List (List Pixel))

/-- What an accepted frame shows the metering unit: its grid of samples (R45, R46). -/
def Meter.grid : List (List Nat) := sampleGrid rows (effectiveWindow m.config p.width p.height)

/-- The mean luma of an accepted frame (R46). -/
def Meter.mean : Nat := meanLuma (m.grid p rows) (effectiveWindow m.config p.width p.height)

/-- The verdict of an accepted frame (R52, R54). -/
def Meter.verdict : Verdict :=
  verdictOf m.config (lowBlocks (m.grid p rows) (effectiveWindow m.config p.width p.height) m.config.clarityThreshold)

variable {m}

/-- A frame that is not due advances the interval count alone (R53). -/
theorem onFrame_notDue (h : m.intervalCount + 1 ≠ m.config.interval) :
    (m.onFrame u p rows).intervalCount = m.intervalCount + 1 ∧ (m.onFrame u p rows).history = m.history := by
  unfold Meter.onFrame
  dsimp only
  rw [if_neg h]
  exact ⟨rfl, rfl⟩

/-- A due frame returns the interval count to 0, and its verdict enters the history when it is bright enough and its gate is not
shut (R53, R55). -/
theorem onFrame_due (h : m.intervalCount + 1 = m.config.interval) :
    (m.onFrame u p rows).intervalCount = 0 ∧
    (m.onFrame u p rows).history =
      if m.config.darkLimit ≤ m.mean p rows ∧ gateOpen u m.config.gate = true then
        (m.verdict p rows :: m.history).take 3 else m.history := by
  unfold Meter.onFrame
  dsimp only
  rw [if_pos h]
  refine ⟨rfl, ?_⟩
  simp only [Bool.and_eq_true, decide_eq_true_eq]
  rfl

end

/-! ### The clarity condition (R55) -/

/-- The clarity condition that a verdict held at least twice gives. -/
def Verdict.condition : Verdict → Clarity
  | .clear => .clear
  | .degraded => .degraded
  | .obscured => .obscured

theorem clarityOf_short {l : List Verdict} (h : l.length < 3) : clarityOf l = .unassessed := by
  match l, h with
  | [], _ => rfl
  | [_], _ => rfl
  | [_, _], _ => rfl

theorem clarityOf_allDiffer {a b c : Verdict} (hab : a ≠ b) (hac : a ≠ c) (hbc : b ≠ c) :
    clarityOf [a, b, c] = .degraded := by
  simp [clarityOf, hab, hac, hbc]

/-- Of three verdicts, `v` is held at least twice: some two places hold it. -/
theorem two_le_count {a b c v : Verdict} (h : 2 ≤ [a, b, c].count v) :
    (a = v ∧ b = v) ∨ (a = v ∧ c = v) ∨ (b = v ∧ c = v) := by
  simp only [List.count_cons, List.count_nil, beq_iff_eq] at h
  by_cases ha : a = v <;> by_cases hb : b = v <;> by_cases hc : c = v <;> simp_all

theorem clarityOf_majority {a b c v : Verdict} (h : 2 ≤ [a, b, c].count v) : clarityOf [a, b, c] = v.condition := by
  have most : (if a = b ∨ a = c then some a else if b = c then some b else none) = some v := by
    obtain ⟨ha, hb⟩ | ⟨ha, hc⟩ | ⟨hb, hc⟩ := two_le_count h
    · rw [if_pos (.inl (ha.trans hb.symm)), ha]
    · rw [if_pos (.inr (ha.trans hc.symm)), ha]
    · by_cases first : a = b ∨ a = c
      · rw [if_pos first]
        exact congrArg some (first.elim (·.trans hb) (·.trans hc))
      · rw [if_neg first, if_pos (hb.trans hc.symm), hb]
  unfold clarityOf
  dsimp only
  rw [most]
  cases v <;> rfl

/-- Settles O24: a frame not due, a due frame, and the clarity condition of a history. -/
theorem dueFramesGiveVerdicts : Obligations.DueFramesGiveVerdicts := by
  refine ⟨fun m u p rows => ⟨onFrame_config m u p rows, onFrame_notDue u p rows, fun due => ?_⟩,
    fun m h => clarityOf_short h, fun m a b c h => ⟨fun hab hac hbc => ?_, fun v hv => ?_⟩⟩
  · obtain ⟨count, history⟩ := onFrame_due u p rows due
    rw [gateOpen_eq] at history
    exact ⟨count, fun bright opened => history.trans (if_pos ⟨bright, opened⟩),
      fun dim => history.trans (if_neg fun ⟨bright, opened⟩ =>
        dim.elim (fun dark => absurd bright (not_le.2 dark)) fun shut => Bool.false_ne_true (shut.symm.trans opened))⟩
  · rw [Meter.clarity, h]
    exact clarityOf_allDiffer hab hac hbc
  · rw [Meter.clarity, h, clarityOf_majority hv]
    cases v <;> rfl

/-! ### SET_METERING (R49, R57, R58) -/

theorem gateValid_iff (g : Gate) : g.valid = true ↔ ∀ n, g = .signal n → n ≤ 15 := by
  cases g <;> simp [Gate.valid, within]

/-- The model's tests are those of R57 step 3. -/
theorem meteringValid_iff_acceptable (m : MeterItems) (w h : Nat) : m.valid w h = true ↔ MeterItems.acceptable m w h := by
  simp only [MeterItems.valid, MeterItems.acceptable, within, Bool.and_eq_true, decide_eq_true_eq, gateValid_iff,
    Nat.dvd_iff_mod_eq_zero]
  generalize (∀ n, m.gate = .signal n → n ≤ 15) = gate
  by_cases hg : gate <;> simp only [hg, and_true, true_and, and_false, false_and, iff_self]
  omega

theorem windowChanges_iff (m k : MeterItems) : windowChanges k m = true ↔ ¬MeterItems.windowsAgree m k := by
  simp only [windowChanges, MeterItems.windowsAgree, Bool.or_eq_true, bne_iff_ne]
  omega

theorem clarityItemsChange_iff (m k : MeterItems) : clarityItemsChange k m = true ↔ ¬MeterItems.clarityAgrees m k := by
  simp only [clarityItemsChange, MeterItems.clarityAgrees, Bool.or_eq_true, bne_iff_ne]
  omega

section
variable {m : Meter} {items : MeterItems}

/-- A request that leaves window and clarity items keeps the history, and the interval count unless the interval changes (R58). -/
theorem configure_kept (hw : MeterItems.windowsAgree items m.config) (hc : MeterItems.clarityAgrees items m.config) :
    (m.configure items).history = m.history ∧
    (m.configure items).intervalCount = if items.interval = m.config.interval then m.intervalCount else 0 := by
  have window : windowChanges m.config items = false := by
    rw [Bool.eq_false_iff]
    exact fun h => (windowChanges_iff _ _).1 h hw
  have clarity : clarityItemsChange m.config items = false := by
    rw [Bool.eq_false_iff]
    exact fun h => (clarityItemsChange_iff _ _).1 h hc
  unfold Meter.configure
  simp only [window, clarity]
  refine ⟨rfl, ?_⟩
  by_cases h : items.interval = m.config.interval
  · simp [Meter.clampGain, h]
  · simp [Meter.clampGain, h, Ne.symm h]

/-- A request that changes a window or clarity item empties the history and restarts the interval count (R58). -/
theorem configure_restarted (h : ¬(MeterItems.windowsAgree items m.config ∧ MeterItems.clarityAgrees items m.config)) :
    (m.configure items).history = [] ∧ (m.configure items).intervalCount = 0 := by
  have restart : (windowChanges m.config items || clarityItemsChange m.config items) = true := by
    rw [Bool.or_eq_true, windowChanges_iff, clarityItemsChange_iff]
    exact not_and_or.1 h
  unfold Meter.configure
  simp only [restart]
  exact ⟨rfl, rfl⟩

variable {s : State} {i : Fin 4} {request : MeterItems}

theorem answerSetMetering_refused (h : ¬MeterItems.acceptable request s.cams[i].port.config.items.width
    s.cams[i].port.config.items.height) : answerSetMetering i.val request s = refuse s .badValue := by
  rw [answerSetMetering, onCamera_val]
  exact if_neg fun hv => h ((meteringValid_iff_acceptable _ _ _).1 hv)

theorem answerSetMetering_taken (h : MeterItems.acceptable request s.cams[i].port.config.items.width
    s.cams[i].port.config.items.height) : answerSetMetering i.val request s =
      accept (s.setCam i { s.cams[i] with meter := (s.cams[i]).meter.configure request.clampTarget }) .nothing := by
  rw [answerSetMetering, onCamera_val]
  exact if_pos ((meteringValid_iff_acceptable _ _ _).2 h)

end

/-- Settles O28: the tests of R57, and the metering unit that an accepted request leaves. -/
theorem meteringTakenWhole : Obligations.MeteringTakenWhole := by
  intro s h cam items hp hlen a refusal
  have length := lengthIs_eq hlen
  refine ⟨fun hc => request_refused hp length (onCamera_above hc _ _), fun i hi => ?_⟩
  subst hi
  refine ⟨fun hb => request_refused hp length (answerSetMetering_refused hb), fun ha => ?_⟩
  exact ⟨_, request_accepted hp length (answerSetMetering_taken ha), rfl, rfl, configure_kept, configure_restarted⟩

end Sys2Proof.Machine
end

section
/-! What is measured of a frame: the effective window, the mean luma and the low-block count (R45, R46, R52). -/

namespace Sys2Proof.Machine

/-! ### Every fourth element (R46) -/

section
variable {α : Type}

/-- What is left of a list after its last sampled element. -/
theorem length_lt_three {rest : List α} (h : ∀ b c d more, rest = b :: c :: d :: more → False) : rest.length < 3 := by
  match rest, h with
  | [], _ => simp
  | [_], _ => simp
  | [_, _], _ => simp
  | b :: c :: d :: more, h => exact (h b c d more rfl).elim

theorem everyFourth_length (l : List α) : (everyFourth l).length = (l.length + 3) / 4 := by
  induction l using everyFourth.induct with
  | case1 a b c d rest ih =>
    simp only [everyFourth, List.length_cons, ih]
    omega
  | case2 a rest h =>
    have := length_lt_three h
    rw [everyFourth.eq_2 a rest h]
    simp only [List.length_cons, List.length_nil]
    omega
  | case3 => simp [everyFourth]

theorem everyFourth_getD (l : List α) (i : Nat) (d : α) : (everyFourth l).getD i d = l.getD (4 * i) d := by
  induction l using everyFourth.induct generalizing i with
  | case1 a b c e rest ih =>
    cases i with
    | zero => rfl
    | succ i =>
      have four : 4 * (i + 1) = 4 * i + 4 := by omega
      rw [everyFourth, four]
      exact ih i
  | case2 a rest h =>
    have := length_lt_three h
    rw [everyFourth.eq_2 a rest h]
    cases i with
    | zero => rfl
    | succ i => rw [List.getD_eq_default _ _ (by simp), List.getD_eq_default _ _ (by simp; omega)]
  | case3 => rfl

/-- A list is what its positions hold. -/
theorem eq_map_getD (l : List α) (d : α) : l = (List.range l.length).map fun i => l.getD i d := by
  apply List.ext_getElem
  · simp
  · intro i hi _
    simp [hi]

/-- Every fourth element of a window of a list, by its position in the list. -/
theorem everyFourth_window (l : List α) {x w : Nat} (d : α) (hw : 4 ∣ w) (hl : x + w ≤ l.length) :
    everyFourth ((l.drop x).take w) = (List.range (w / 4)).map fun i => l.getD (x + 4 * i) d := by
  have size : ((l.drop x).take w).length = w := by
    rw [List.length_take, List.length_drop]
    omega
  have count : (everyFourth ((l.drop x).take w)).length = w / 4 := by
    rw [everyFourth_length, size]
    omega
  rw [eq_map_getD (everyFourth ((l.drop x).take w)) d, count]
  refine List.map_congr_left fun i hi => ?_
  have inside : 4 * i < w := by
    have := List.mem_range.1 hi
    omega
  rw [everyFourth_getD]
  simp only [List.getD_eq_getElem?_getD, List.getElem?_take, inside, if_true, List.getElem?_drop]

end

/-! ### The grid of samples (R46) -/

/-- The sample luma in column `a` and row `b` of the grid of a window (R46). -/
def sampleAt (rows : List (List Pixel)) (win : Window) (a b : Nat) : Nat :=
  luma ((rows.getD (win.y + 4 * b) []).getD (win.x + 4 * a) (rgb 0 0 0))

/-- A luma is at most 255 (R46). -/
theorem luma_le (q : Pixel) : luma q ≤ 255 := by
  have := q.r.isLt
  have := q.g.isLt
  have := q.b.isLt
  unfold luma
  omega

section
variable {rows : List (List Pixel)} {win : Window} (tall : win.y + win.h ≤ rows.length)
  (wide : ∀ row ∈ rows, win.x + win.w ≤ row.length)
include tall wide

/-- The grid holds every fourth pixel's luma of every fourth line of the window (R46). -/
theorem sampleGrid_eq (hw : 4 ∣ win.w) (hh : 4 ∣ win.h) : sampleGrid rows win =
    (List.range (win.h / 4)).map fun b => (List.range (win.w / 4)).map fun a => sampleAt rows win a b := by
  unfold sampleGrid
  rw [everyFourth_window rows [] hh tall, List.map_map]
  refine List.map_congr_left fun b hb => ?_
  have inside : win.y + 4 * b < rows.length := by
    have := List.mem_range.1 hb
    omega
  have held : rows.getD (win.y + 4 * b) [] ∈ rows := by
    rw [List.getD_eq_getElem _ _ inside]
    exact List.getElem_mem inside
  dsimp only [Function.comp]
  rw [everyFourth_window _ (rgb 0 0 0) hw (wide _ held), List.map_map]
  rfl

/-- The mean luma of a frame, sample by sample (R46). -/
theorem meanLuma_eq (hw : 4 ∣ win.w) (hh : 4 ∣ win.h) : meanLuma (sampleGrid rows win) win =
    ((((List.range (win.h / 4)).map fun b => ((List.range (win.w / 4)).map fun a => sampleAt rows win a b).sum).sum) +
      (win.w / 4) * (win.h / 4) / 2) / ((win.w / 4) * (win.h / 4)) := by
  rw [sampleGrid_eq tall wide hw hh, meanLuma, List.map_map]
  rfl

end

/-! ### Activity (R52) -/

theorem le_foldl_max (l : List Nat) (x y : Nat) : x ≤ l.foldl max y ↔ x ≤ y ∨ ∃ z ∈ l, x ≤ z := by
  induction l generalizing y with
  | nil => simp
  | cons z l ih => simp [ih, or_assoc]

theorem foldl_min_le (l : List Nat) (x y : Nat) : l.foldl min y ≤ x ↔ y ≤ x ∨ ∃ z ∈ l, z ≤ x := by
  induction l generalizing y with
  | nil => simp
  | cons z l ih => simp [ih, or_assoc]

/-- A block's activity lies below the threshold exactly when each of its samples lies less than the threshold above each (R52). -/
theorem activity_lt_iff {l : List Nat} (some : l ≠ []) (small : ∀ x ∈ l, x ≤ 255) (threshold : Nat) :
    activity l < threshold ↔ ∀ x ∈ l, ∀ y ∈ l, x < y + threshold := by
  have greatest : ∃ z ∈ l, l.foldl max 0 ≤ z := by
    obtain ⟨x, hx⟩ := List.exists_mem_of_ne_nil l some
    rcases (le_foldl_max l (l.foldl max 0) 0).1 le_rfl with h | h
    · exact ⟨x, hx, by omega⟩
    · exact h
  have least : ∃ z ∈ l, z ≤ l.foldl min 255 := by
    obtain ⟨x, hx⟩ := List.exists_mem_of_ne_nil l some
    rcases (foldl_min_le l (l.foldl min 255) 255).1 le_rfl with h | h
    · exact ⟨x, hx, (small x hx).trans h⟩
    · exact h
  obtain ⟨top, htop, hmax⟩ := greatest
  obtain ⟨low, hlow, hmin⟩ := least
  have above (x : Nat) (hx : x ∈ l) : x ≤ l.foldl max 0 := (le_foldl_max l x 0).2 (.inr ⟨x, hx, le_rfl⟩)
  have below (x : Nat) (hx : x ∈ l) : l.foldl min 255 ≤ x := (foldl_min_le l x 255).2 (.inr ⟨x, hx, le_rfl⟩)
  unfold activity
  constructor
  · intro h x hx y hy
    have := above x hx
    have := below y hy
    omega
  · intro h
    have := h top htop low hlow
    have := above top htop
    have := below low hlow
    have := above low hlow
    omega

/-! ### Blocks (R52) -/

/-- Sample (a, b) of the grid lies in block (c, r) (R52). -/
def Window.inBlock (win : Window) (c r a b : Nat) : Prop :=
  a < win.w / 4 ∧ b < win.h / 4 ∧ a / (win.w / 32) = c ∧ b / (win.h / 24) = r

/-- Run `k` of `p` entries ends within a table of `n` runs. -/
theorem run_within {k n : Nat} (p : Nat) (h : k < n) : k * p + p ≤ n * p := by
  rw [← Nat.succ_mul]
  exact Nat.mul_le_mul_right p h

/-- The entries of run `k` of `p` of a table of `n` runs. -/
theorem run_of_range {k n : Nat} (p : Nat) (h : k < n) :
    ((List.range (n * p)).drop (k * p)).take p = List.range' (k * p) p := by
  have := run_within p h
  apply List.ext_getElem
  · simp
    omega
  · intro i _ _
    simp

section
variable {rows : List (List Pixel)} {win : Window} {c r : Nat} (hw : 32 ∣ win.w) (hh : 24 ∣ win.h)
include hw hh

/-- The grid has 8 columns and 6 rows of blocks (R52). -/
theorem grid_size : win.w / 4 = 8 * (win.w / 32) ∧ win.h / 4 = 6 * (win.h / 24) := by omega

section
variable (hc : c < 8) (hr : r < 6) (f : Nat → Nat → Nat)
include hc hr

/-- The samples of a block are those of its run of rows and columns of the grid (R52). -/
theorem blockSamples_eq :
    blockSamples ((List.range (win.h / 4)).map fun b => (List.range (win.w / 4)).map fun a => f a b) win c r =
      ((List.range' (r * (win.h / 24)) (win.h / 24)).map fun b =>
        (List.range' (c * (win.w / 32)) (win.w / 32)).map fun a => f a b).flatten := by
  obtain ⟨columns, lines⟩ := grid_size hw hh
  rw [blockSamples, columns, lines, ← List.map_drop, ← List.map_take, run_of_range _ hr, List.map_map]
  congr 1
  refine List.map_congr_left fun b _ => ?_
  dsimp only [Function.comp]
  rw [← List.map_drop, ← List.map_take, run_of_range _ hc]

variable (pw : 0 < win.w) (ph : 0 < win.h)
include pw ph

omit f in
theorem inBlock_iff (a b : Nat) : win.inBlock c r a b ↔
    b ∈ List.range' (r * (win.h / 24)) (win.h / 24) ∧ a ∈ List.range' (c * (win.w / 32)) (win.w / 32) := by
  obtain ⟨columns, lines⟩ := grid_size hw hh
  have right := run_within (win.w / 32) hc
  have bottom := run_within (win.h / 24) hr
  unfold Window.inBlock
  rw [List.mem_range'_1, List.mem_range'_1, Nat.div_eq_iff (by omega), Nat.div_eq_iff (by omega), columns, lines]
  omega

/-- A value is a sample of a block exactly when it is the sample of a place in the block (R52). -/
theorem mem_blockSamples (x : Nat) :
    x ∈ blockSamples ((List.range (win.h / 4)).map fun b => (List.range (win.w / 4)).map fun a => f a b) win c r ↔
      ∃ a b, win.inBlock c r a b ∧ f a b = x := by
  rw [blockSamples_eq hw hh hc hr]
  simp only [List.mem_flatten, List.mem_map, inBlock_iff hw hh hc hr pw ph]
  constructor
  · rintro ⟨-, ⟨b, hb, rfl⟩, hx⟩
    obtain ⟨a, ha, rfl⟩ := List.mem_map.1 hx
    exact ⟨a, b, ⟨hb, ha⟩, rfl⟩
  · rintro ⟨a, b, ⟨hb, ha⟩, rfl⟩
    exact ⟨_, ⟨b, hb, rfl⟩, List.mem_map_of_mem ha⟩

/-- Every block of a window has a sample: the one at its corner (R52). -/
theorem blockSamples_ne_nil :
    blockSamples ((List.range (win.h / 4)).map fun b => (List.range (win.w / 4)).map fun a => f a b) win c r ≠ [] := by
  have corner : win.inBlock c r (c * (win.w / 32)) (r * (win.h / 24)) := by
    rw [inBlock_iff hw hh hc hr pw ph, List.mem_range'_1, List.mem_range'_1]
    omega
  exact List.ne_nil_of_mem ((mem_blockSamples hw hh hc hr f pw ph _).2 ⟨_, _, corner, rfl⟩)

omit f in
/-- A block is low exactly when each of its samples lies less than the threshold above each (R52). -/
theorem blockLow_iff (threshold : Nat) :
    activity (blockSamples ((List.range (win.h / 4)).map fun b =>
      (List.range (win.w / 4)).map fun a => sampleAt rows win a b) win c r) < threshold ↔
    ∀ a b a' b', win.inBlock c r a b → win.inBlock c r a' b' →
      sampleAt rows win a b < sampleAt rows win a' b' + threshold := by
  have mem := mem_blockSamples hw hh hc hr (sampleAt rows win) pw ph
  rw [activity_lt_iff (blockSamples_ne_nil hw hh hc hr _ pw ph) fun x hx => ?_]
  · constructor
    · exact fun h a b a' b' hab hab' => h _ ((mem _).2 ⟨a, b, hab, rfl⟩) _ ((mem _).2 ⟨a', b', hab', rfl⟩)
    · intro h x hx y hy
      obtain ⟨a, b, hab, rfl⟩ := (mem x).1 hx
      obtain ⟨a', b', hab', rfl⟩ := (mem y).1 hy
      exact h a b a' b' hab hab'
  · obtain ⟨a, b, -, rfl⟩ := (mem x).1 hx
    exact luma_le _

end
end

/-! ### The low-block count (R52) -/

section
variable (grid : List (List Nat)) (win : Window) (threshold : Nat)

/-- The low blocks of a row of blocks, as places. -/
def lowInRow (r : Nat) : List (Nat × Nat) :=
  ((List.range 8).filter fun c => decide (activity (blockSamples grid win c r) < threshold)).map fun c => (c, r)

theorem mem_lowInRow (c r k : Nat) : (c, k) ∈ lowInRow grid win threshold r ↔
    k = r ∧ c < 8 ∧ activity (blockSamples grid win c r) < threshold := by
  simp only [lowInRow, List.mem_map, List.mem_filter, List.mem_range, decide_eq_true_eq, Prod.mk.injEq]
  constructor
  · rintro ⟨c, low, rfl, rfl⟩
    exact ⟨rfl, low⟩
  · rintro ⟨rfl, low⟩
    exact ⟨c, low, rfl, rfl⟩

theorem lowBlocks_eq : lowBlocks grid win threshold = ((List.range 6).flatMap (lowInRow grid win threshold)).length := by
  rw [List.length_flatMap, lowBlocks]
  simp only [lowInRow, List.length_map]

theorem lowInRow_nodup : ((List.range 6).flatMap (lowInRow grid win threshold)).Nodup := by
  rw [List.nodup_flatMap]
  constructor
  · intro r _
    exact (List.nodup_range.filter _).map fun c d e => congrArg Prod.fst e
  · refine List.Pairwise.imp (fun {r k} hrk => ?_) List.nodup_range
    rintro ⟨c, j⟩ hr hk
    exact hrk (((mem_lowInRow ..).1 hr).1.symm.trans ((mem_lowInRow ..).1 hk).1)

/-- The low-block count is the length of any list that names each low block once (R52). -/
theorem lowBlocks_eq_length {low : List (Nat × Nat)} (once : low.Nodup)
    (names : ∀ c r, (c, r) ∈ low ↔ c < 8 ∧ r < 6 ∧ activity (blockSamples grid win c r) < threshold) :
    lowBlocks grid win threshold = low.length := by
  rw [lowBlocks_eq]
  refine List.Perm.length_eq ((List.perm_ext_iff_of_nodup (lowInRow_nodup ..) once).2 fun ⟨c, r⟩ => ?_)
  rw [names, List.mem_flatMap]
  simp only [mem_lowInRow, List.mem_range]
  constructor
  · rintro ⟨k, hk, rfl, hc, low⟩
    exact ⟨hc, hk, low⟩
  · rintro ⟨hc, hr, low⟩
    exact ⟨r, hr, rfl, hc, low⟩

end

/-- Settles O22: the window by its two cases, the mean luma and the low blocks through the grid of samples. -/
theorem meanLumaSamplesTheGrid : Obligations.MeanLumaSamplesTheGrid := by
  refine ⟨fun m W H => ⟨fun fits => if_pos fits, fun outside => if_neg outside⟩, fun rows win tall wide => ?_⟩
  refine ⟨fun hw hh => meanLuma_eq tall wide hw hh, ?_⟩
  intro hw hh pw ph threshold low once inBlock names
  rw [sampleGrid_eq tall wide (by omega) (by omega)]
  refine lowBlocks_eq_length _ win threshold once fun c r => (names c r).trans ?_
  refine and_congr_right fun hc => and_congr_right fun hr => ?_
  exact (blockLow_iff hw hh hc hr pw ph threshold).symm

end Sys2Proof.Machine
end

section
/-! The requests of the mesh store (R61, R64 to R67, R69, R70) and the inactivity deadline of an upload (R68). -/

namespace Sys2Proof.Machine

/-! ### Slots in use (R70) and the charge of a store (R61) -/

theorem namesSlot_iff (t : Tile) (i : Fin 8) : Tile.namesSlot t i = true ↔ t.mapping = .mesh i := by
  unfold Tile.namesSlot
  cases t.mapping <;> simp

/-- The model's reference test is that of R70. -/
theorem meshInUse_iff (s : State) (i : Fin 8) : s.meshInUse i = true ↔ s.namesMesh i := by
  simp only [State.meshInUse, State.namesMesh, Bool.or_eq_true, List.any_eq_true, namesSlot_iff, or_and_right, exists_or]

/-- What the replaced slot charged is released and what it charges now is taken, whatever becomes of the upload (R61). -/
theorem charge_replaced (m : MeshStore) (i : Fin 8) (x : MeshSlot) (up : Option Upload) :
    MeshStore.charge ⟨m.slots.set i x, up⟩ + m.slots[i].charge = m.charge + x.charge :=
  charge_put m i x

/-! ### MESH_BEGIN (R64) -/

/-- The store after an accepted MESH_BEGIN at `now`: the slot LOADING with no rows, and the upload's deadline (R63, R64). -/
def MeshStore.begun (m : MeshStore) (i : Fin 8) (cols rows now : Nat) : MeshStore :=
  ⟨m.slots.set i (.loading cols rows []), some ⟨i, 0, now + 300 * 1000⟩⟩

section
variable {s : State} {i : Fin 8} {slot cols rows : Nat}

theorem legalDimensions_iff :
    (within cols 3 41 && within rows 3 26) = true ↔ 3 ≤ cols ∧ cols ≤ 41 ∧ 3 ≤ rows ∧ rows ≤ 26 := by
  simp [within, and_assoc]

/-- A slot number above 7 or a dimension outside its range is refused before any other test. -/
theorem answerMeshBegin_illegal (h : ¬(slot ≤ 7 ∧ 3 ≤ cols ∧ cols ≤ 41 ∧ 3 ≤ rows ∧ rows ≤ 26)) :
    answerMeshBegin slot cols rows s = refuse s .badValue := by
  unfold answerMeshBegin
  split
  · rfl
  · next i hi =>
    have small : slot ≤ 7 := by
      by_contra above
      rw [asIndex_none (by omega)] at hi
      cases hi
    refine if_pos ?_
    rw [Bool.not_eq_true', Bool.eq_false_iff]
    exact fun dims => h ⟨small, legalDimensions_iff.1 dims⟩

variable (legal : 3 ≤ cols ∧ cols ≤ 41 ∧ 3 ≤ rows ∧ rows ≤ 26)
include legal

/-- Within the ranges the tests are those of the upload, of the references and of the pool, in this order; the last one is
that the store with the slot reserved would charge more than the pool. -/
theorem answerMeshBegin_legal : answerMeshBegin i.val cols rows s =
    if s.mesh.upload.isSome then refuse s .busy
    else if s.meshInUse i then refuse s .inUse
    else if 6144 < (s.mesh.begun i cols rows s.clock).charge then refuse s .noSpace
    else accept { s with mesh := s.mesh.begun i cols rows s.clock }
      (.freeNodes (6144 - (s.mesh.begun i cols rows s.clock).charge)) := by
  have charge : (s.mesh.begun i cols rows s.clock).charge = s.mesh.charge - s.mesh.slots[i].charge + cols * rows := by
    have replaced : (s.mesh.begun i cols rows s.clock).charge + s.mesh.slots[i].charge = s.mesh.charge + cols * rows :=
      charge_replaced s.mesh i (.loading cols rows []) _
    have part := slot_charge_le s.mesh i
    omega
  rw [answerMeshBegin, asIndex_val]
  dsimp only
  rw [legalDimensions_iff.2 legal, ← charge]
  rfl

theorem answerMeshBegin_busy (h : s.mesh.upload ≠ none) : answerMeshBegin i.val cols rows s = refuse s .busy := by
  rw [answerMeshBegin_legal legal, if_pos (Option.isSome_iff_ne_none.2 h)]

variable (idle : s.mesh.upload = none)
include idle

theorem answerMeshBegin_inUse (h : s.namesMesh i) : answerMeshBegin i.val cols rows s = refuse s .inUse := by
  rw [answerMeshBegin_legal legal, if_neg (by simp [idle]), if_pos ((meshInUse_iff s i).2 h)]

variable (unused : ¬s.namesMesh i)
include unused

/-- With no upload in progress and the slot not in use, the pool alone decides (R61). -/
theorem answerMeshBegin_pool : answerMeshBegin i.val cols rows s =
    if 6144 < (s.mesh.begun i cols rows s.clock).charge then refuse s .noSpace
    else accept { s with mesh := s.mesh.begun i cols rows s.clock }
      (.freeNodes (6144 - (s.mesh.begun i cols rows s.clock).charge)) := by
  rw [answerMeshBegin_legal legal, if_neg (by simp [idle]), if_neg (mt (meshInUse_iff s i).1 unused)]

end

/-- Settles O29: the tests of R64 in their order, the last one on the charge of the store with the slot reserved. -/
theorem meshBeginReservesNodes : Obligations.MeshBeginReservesNodes := by
  intro s h slot cols rows hp hlen a run refused legal
  have length := lengthIs_eq hlen
  refine ⟨fun hl => request_refused hp length (answerMeshBegin_illegal hl), ?_⟩
  intro i hi hl m
  subst hi
  have dims := hl.2
  refine ⟨fun up => request_refused hp length (answerMeshBegin_busy dims up),
    fun idle used => request_refused hp length (answerMeshBegin_inUse dims idle used),
    fun idle unused full => request_refused hp length ?_, fun idle unused fits => request_accepted hp length ?_⟩
  · exact (answerMeshBegin_pool dims idle unused).trans (if_pos full)
  · exact (answerMeshBegin_pool dims idle unused).trans (if_neg (Nat.not_lt.2 fits))

/-! ### MESH_ROWS and MESH_END (R65 to R67) -/

/-- A payload of whole nodes that a frame can carry is laid out by R174, and the owner answers it. -/
theorem exec_meshRows (s : State) {h : Header} (slot row : Byte) {bytes : List Byte} (hlen : h.len = 2 + bytes.length)
    (whole : 4 ∣ bytes.length) (fits : h.len ≤ 248) :
    ∃ nodes : List Node, 4 * nodes.length = bytes.length ∧
      (∀ i < nodes.length, nodes.getD i ⟨0, 0⟩ =
        ⟨(wordOf (bytes.getD (4 * i) 0) (bytes.getD (4 * i + 1) 0)).toInt,
          (wordOf (bytes.getD (4 * i + 2) 0) (bytes.getD (4 * i + 3) 0)).toInt⟩) ∧
      exec (.meshRows h slot row bytes) s = request 0x21#8 h true (answerMeshRows slot.toNat row.toNat nodes) s := by
  obtain ⟨k, hk⟩ := whole
  obtain ⟨nodes, hn, count, each⟩ := nodesOf_whole k bytes hk
  subst count
  have layout : payloadOf h.len (slot :: row :: bytes) meshRowsOf = some ⟨slot.toNat, row.toNat, nodes⟩ := by
    rw [payloadOf, if_pos (by simp only [List.length_cons]; omega)]
    dsimp only [meshRowsOf]
    rw [if_pos (by omega), hn]
    rfl
  refine ⟨nodes, hk.symm, each, ?_⟩
  show execMeshRows h slot row bytes s = _
  rw [execMeshRows, layout]

section
variable {s : State} {i : Fin 8} {slot : Nat}

theorem answerMeshRows_above (h : 7 < slot) (row : Nat) (nodes : List Node) :
    answerMeshRows slot row nodes s = refuse s .badValue := by
  rw [answerMeshRows, asIndex_none h]

theorem answerMeshEnd_above (h : 7 < slot) : answerMeshEnd slot s = refuse s .badValue := by
  rw [answerMeshEnd, asIndex_none h]

/-- Rows for a slot that no upload loads are refused. -/
theorem answerMeshRows_wrongState (h : ∀ u, s.mesh.upload = some u → u.slot ≠ i) (row : Nat) (nodes : List Node) :
    answerMeshRows i.val row nodes s = refuse s .wrongState := by
  rw [answerMeshRows, asIndex_val]
  dsimp only
  split
  · next u _ _ _ hu _ => exact if_pos (h u hu)
  · rfl

/-- The end of a slot that no upload loads is refused. -/
theorem answerMeshEnd_wrongState (h : ∀ u, s.mesh.upload = some u → u.slot ≠ i) :
    answerMeshEnd i.val s = refuse s .wrongState := by
  rw [answerMeshEnd, asIndex_val]
  dsimp only
  split
  · next u _ _ _ hu _ => exact if_pos (h u hu)
  · rfl

variable {u : Upload} {cols rows : Nat} {held : List (List Node)} (hu : s.mesh.upload = some u) (same : u.slot = i)
  (hs : s.mesh.slots[i] = .loading cols rows held)
include hu same hs

/-- Rows for the slot that the upload loads: out of order they abort it (R67), otherwise they are stored (R65). -/
theorem answerMeshRows_loading (row : Nat) (nodes : List Node) : answerMeshRows i.val row nodes s =
    if row ≠ u.nextRow ∨ rows ≤ u.nextRow ∨ nodes.length ≠ cols then s.abortUpload i
    else accept { s with mesh := ⟨s.mesh.slots.set i (.loading cols rows (held ++ [nodes])),
      some ⟨i, u.nextRow + 1, s.clock + 300 * 1000⟩⟩ } (.nextRow (u.nextRow + 1)) := by
  rw [answerMeshRows, asIndex_val]
  dsimp only
  rw [hu, hs]
  exact if_neg (not_not.2 same)

/-- The end of the slot that the upload loads: early it aborts the upload (R67), otherwise the mesh is complete, and it
charges what it charged while it was LOADING (R66). -/
theorem answerMeshEnd_loading : answerMeshEnd i.val s =
    if u.nextRow < rows then s.abortUpload i
    else accept { s with mesh := ⟨s.mesh.slots.set i (.ready ⟨cols, rows, held⟩), none⟩ }
      (.freeNodes (6144 - s.mesh.charge)) := by
  have charge : MeshStore.charge ⟨s.mesh.slots.set i (.ready ⟨cols, rows, held⟩), none⟩ = s.mesh.charge := by
    have replaced := charge_replaced s.mesh i (.ready ⟨cols, rows, held⟩) none
    rw [hs] at replaced
    exact Nat.add_right_cancel replaced
  rw [← charge, answerMeshEnd, asIndex_val]
  dsimp only
  rw [hu, hs]
  exact if_neg (not_not.2 same)

end

/-- Settles O30: the payload's layout, and the order of the rows against the upload context. -/
theorem meshUploadFollowsItsOrder : Obligations.MeshUploadFollowsItsOrder := by
  constructor
  · intro s h slot row bytes hp hlen whole fits a signed
    obtain ⟨nodes, count, each, handled⟩ := exec_meshRows s slot row hlen whole fits
    refine ⟨nodes, count, fun i hi => ?_, ?_⟩
    · rw [each i hi, wordOf_toInt, wordOf_toInt]
    · intro run
      have refused {code : ResultCode} (ho : answerMeshRows slot.toNat row.toNat nodes a = refuse a code) :=
        handled.trans (request_refused hp rfl ho)
      refine ⟨fun above => refused (answerMeshRows_above above _ _), fun i hi unloaded => ?_, ?_⟩
      · exact refused (hi ▸ answerMeshRows_wrongState unloaded _ _)
      · intro i u cols rows held hi hu same hs
        have answer := (congrArg (answerMeshRows · row.toNat nodes a) hi).trans
          (answerMeshRows_loading hu same hs row.toNat nodes)
        refine ⟨fun inOrder more full => handled.trans (request_accepted hp rfl ?_),
          fun wrong => handled.trans (request_answered hp rfl (answer.trans (if_pos wrong)))⟩
        rw [answer, if_neg (by omega)]
  · intro s h slot hp hlen a run
    have length := lengthIs_eq hlen
    refine ⟨fun above => request_refused hp length (answerMeshEnd_above above), fun i hi unloaded => ?_, ?_⟩
    · subst hi
      exact request_refused hp length (answerMeshEnd_wrongState unloaded)
    · intro i u cols rows held hi hu same hs
      subst hi
      have answer := answerMeshEnd_loading hu same hs
      exact ⟨fun all => request_accepted hp length (answer.trans (if_neg (Nat.not_lt.2 all))),
        fun early => request_answered hp length (answer.trans (if_pos early))⟩

/-! ### MESH_FREE (R69) -/

/-- The store after an accepted MESH_FREE: the slot FREE, and the upload ended if it loaded the slot (R69). -/
def MeshStore.freed (m : MeshStore) (i : Fin 8) : MeshStore :=
  ⟨m.slots.set i .free, match m.slots[i] with
    | .loading _ _ _ => none
    | _ => m.upload⟩

section
variable {s : State} {i : Fin 8} {slot : Nat}

theorem answerMeshFree_above (h : 7 < slot) : answerMeshFree slot s = refuse s .badValue := by
  rw [answerMeshFree, asIndex_none h]

theorem answerMeshFree_inUse (h : s.namesMesh i) : answerMeshFree i.val s = refuse s .inUse := by
  rw [answerMeshFree, asIndex_val]
  exact if_pos ((meshInUse_iff s i).2 h)

/-- A slot not in use becomes FREE, whatever it held; one that was FREE stays as it is. -/
theorem answerMeshFree_unused (h : ¬s.namesMesh i) : answerMeshFree i.val s =
    accept { s with mesh := s.mesh.freed i } (.freeNodes (6144 - (s.mesh.freed i).charge)) := by
  rw [answerMeshFree, asIndex_val]
  refine (if_neg (mt (meshInUse_iff s i).1 h)).trans ?_
  unfold MeshStore.freed
  cases hs : s.mesh.slots[i] with
  | free =>
    have still : s.mesh.slots.set i .free = s.mesh.slots := by
      rw [← hs]
      exact Vector.set_getElem_self _
    rw [still]
    rfl
  | ready m => rfl
  | loading cols rows held => rfl

end

/-! ### The inactivity deadline (R68) -/

/-- At the deadline the upload's slot becomes FREE, MESH_ABANDONED pulses and the error is queued, at the deadline's instant. -/
theorem exec_meshInactivityExpiry {s : State} (hp : s.powered = true) {u : Upload} (hu : s.mesh.upload = some u) :
    exec .meshInactivityExpiry s = .next (State.abandonUpload (s.atInstant (some u.deadline)) u).settle := by
  show execMeshInactivityExpiry s = _
  rw [execMeshInactivityExpiry, event_occurs _ hp (by rw [hu]; rfl), hu]

theorem exec_meshInactivityExpiry_idle {s : State} (h : s.mesh.upload = none) : exec .meshInactivityExpiry s = .next s := by
  show execMeshInactivityExpiry s = _
  exact event_idle _ _ (by rw [h]; rfl)

/-- Settles O31: a slot freed by request, and the upload abandoned at its deadline. -/
theorem meshFreedOrAbandoned : Obligations.MeshFreedOrAbandoned := by
  intro s h slot hp a
  refine ⟨fun hlen => ?_, fun u hu => exec_meshInactivityExpiry hp hu, exec_meshInactivityExpiry_idle⟩
  have length := lengthIs_eq hlen
  refine ⟨fun above => request_refused hp length (answerMeshFree_above above), fun i hi => ?_⟩
  subst hi
  exact ⟨fun used => request_refused hp length (answerMeshFree_inUse used),
    fun unused => request_accepted hp length (answerMeshFree_unused unused)⟩

end Sys2Proof.Machine
end

section
/-! The requests of the view table (R73, R74, R76, R77, R80 to R84, R86, R87). -/

namespace Sys2Proof.Machine

theorem lengthCounts_eq {h : Header} {base step count items : Nat} (hc : count = items)
    (hl : h.len = base + step * items) (fits : h.len ≤ 248) : lengthCounts h base step count items = true := by
  simp [lengthCounts, hc, ← hl, fits]

/-! ### Records that are taken one by one -/

section
variable {α β : Type}

/-- A list is taken whole exactly when each of its records is, in order. -/
theorem mapM_eq_some_iff {f : α → Option β} {l : List α} {r : List β} :
    l.mapM f = some r ↔ List.Forall₂ (fun a b => f a = some b) l r := by
  induction l generalizing r with
  | nil => simp [eq_comm]
  | cons a l ih =>
    rw [List.mapM_cons, List.forall₂_cons_left_iff]
    constructor
    · intro h
      obtain ⟨b, hb, h⟩ := Option.bind_eq_some_iff.1 h
      obtain ⟨r', hr, h⟩ := Option.bind_eq_some_iff.1 h
      exact ⟨b, r', hb, ih.1 hr, (Option.some.inj h).symm⟩
    · rintro ⟨b, r', hb, hr, rfl⟩
      rw [hb, ih.2 hr]
      rfl

/-- Every member of a list is related to something exactly when the whole list is related to some list. -/
theorem exists_forall₂_iff {R : α → β → Prop} {l : List α} :
    (∃ r, List.Forall₂ R l r) ↔ ∀ a ∈ l, ∃ b, R a b := by
  induction l with
  | nil => simp
  | cons a l ih =>
    rw [List.forall_mem_cons, ← ih]
    constructor
    · rintro ⟨_, hb | ⟨hab, hl⟩⟩
      exact ⟨⟨_, hab⟩, ⟨_, hl⟩⟩
    · rintro ⟨⟨b, hab⟩, ⟨r, hl⟩⟩
      exact ⟨b :: r, .cons hab hl⟩

/-- A property of the related members may be stated beside the relation or of the whole list. -/
theorem forall₂_and_iff {R : α → β → Prop} {p : β → Prop} {l : List α} {r : List β} :
    List.Forall₂ (fun a b => R a b ∧ p b) l r ↔ List.Forall₂ R l r ∧ ∀ b ∈ r, p b := by
  induction l generalizing r with
  | nil => cases r <;> simp
  | cons a l ih =>
    cases r with
    | nil => simp
    | cons b r =>
      simp only [List.forall₂_cons, List.forall_mem_cons, ih]
      tauto

/-- Two lists related member by member are pairwise in order together, when the order of two members agrees with that of
the members that they are related to. -/
theorem pairwise_iff_of_forall₂ {R : α → β → Prop} {P : α → α → Prop} {Q : β → β → Prop}
    (agree : ∀ a a' b b', R a b → R a' b' → (P a a' ↔ Q b b')) {l : List α} {r : List β} (h : List.Forall₂ R l r) :
    l.Pairwise P ↔ r.Pairwise Q := by
  induction h with
  | nil => simp
  | @cons a b l r hab hlr ih =>
    have first : (∀ a' ∈ l, P a a') ↔ ∀ b' ∈ r, Q b b' := by
      clear ih
      induction hlr with
      | nil => simp
      | cons hab' _ ih => simp [agree _ _ _ _ hab hab', ih]
    simp [first, ih]

end

/-! ### Tiles (R74, R76) -/

section
variable {f g : TileFields} {t u : Tile} {cams : Vector Cam 4}

/-- The ranges of R74 for a tile's size. -/
def TileFields.SizeInRange (f : Sys2Proof.TileFields) : Prop := 64 ≤ f.w ∧ f.w ≤ 1280 ∧ 48 ≤ f.h ∧ f.h ≤ 800

theorem asIndex_eq_some {n i : Nat} {k : Fin n} : asIndex n i = some k ↔ k.val = i := by
  rw [asIndex]
  split
  · simp [Fin.ext_iff, eq_comm]
  · simp only [reduceCtorEq, false_iff]
    omega

theorem sizeInRange_iff : (within f.w 64 1280 && within f.h 48 800) = true ↔ TileFields.SizeInRange f := by
  simp [within, TileFields.SizeInRange, and_assoc]

/-- Test 3 of R76 takes a tile exactly when its size is in range and its other fields have values of the table. -/
theorem asTile_eq_some : f.asTile = some t ↔ TileFields.becomes f t ∧ TileFields.SizeInRange f := by
  constructor
  · intro h
    unfold TileFields.asTile at h
    split at h
    · next camera mirror hc hm hr hs =>
      cases h
      exact ⟨⟨asIndex_eq_some.1 hc, rfl, rfl, rfl, rfl, hr.symm, rfl, hm, rfl, rfl, rfl, rfl⟩, sizeInRange_iff.1 hs⟩
    · next camera mirror hc hm hr hs =>
      obtain ⟨slot, hslot, rfl⟩ := Option.map_eq_some_iff.1 h
      exact ⟨⟨asIndex_eq_some.1 hc, rfl, rfl, rfl, rfl, hr.symm, rfl, hm, asIndex_eq_some.1 hslot⟩, sizeInRange_iff.1 hs⟩
    · cases h
  · obtain ⟨camera, x, y, w, h, mapping, mirror, fill⟩ := t
    rintro ⟨⟨hc, rfl, rfl, rfl, rfl, hr, rfl, hmap⟩, hs⟩
    cases mapping with
    | linear sx sy sw sh =>
      obtain ⟨hm, rfl, rfl, rfl, rfl⟩ := hmap
      rw [TileFields.asTile, asIndex_eq_some.2 hc, hm, ← hr, sizeInRange_iff.2 hs]
    | mesh slot =>
      obtain ⟨hm, hslot⟩ := hmap
      rw [TileFields.asTile, asIndex_eq_some.2 hc, hm, ← hr, sizeInRange_iff.2 hs, asIndex_eq_some.2 hslot]
      rfl

/-- A carried tile passes tests 3 to 5 of R76 as the tile `t` of the table. -/
def TileFields.Taken (cams : Vector Cam 4) (f : Sys2Proof.TileFields) (t : Sys2Proof.Tile) : Prop :=
  f.asTile = some t ∧ t.insideCanvas = true ∧ t.windowFits cams = true

theorem taken_acceptable (h : TileFields.Taken cams f t) : TileFields.acceptable f cams := by
  obtain ⟨made, inside, fits⟩ := h
  obtain ⟨⟨hc, hx, hy, hw, hh, hr, -, hmap⟩, w64, w1280, h48, h800⟩ := asTile_eq_some.1 made
  rw [insideCanvas_iff, hx, hy, hw, hh] at inside
  have mirror : f.mirror.isSome = true := by rw [← hr]; rfl
  have window : f.mapping = some .linear → 2 ≤ f.sw ∧ 2 ≤ f.sh ∧
      f.sx + f.sw ≤ cams[t.camera].port.config.items.width ∧ f.sy + f.sh ≤ cams[t.camera].port.config.items.height := by
    intro linear
    unfold Tile.windowFits at fits
    split at hmap
    · next e =>
      obtain ⟨-, rfl, rfl, rfl, rfl⟩ := hmap
      simpa [e, and_assoc] using fits
    · next e => simp [hmap.1] at linear
  have code : f.mapping.isSome = true ∧ (f.mapping = some .mesh → f.slot ≤ 7) := by
    split at hmap
    · simp [hmap.1]
    · next slot _ => exact ⟨by simp [hmap.1], fun _ => by omega⟩
  exact ⟨⟨t.camera, hc.symm, window⟩, w64, w1280, h48, h800, code.1, mirror, code.2, inside⟩

theorem acceptable_taken (h : TileFields.acceptable f cams) : ∃ t, TileFields.Taken cams f t := by
  obtain ⟨⟨camera, hc, window⟩, w64, w1280, h48, h800, code, mirror, slot, inside⟩ := h
  obtain ⟨m, hm⟩ := Option.isSome_iff_exists.1 code
  obtain ⟨r, hr⟩ := Option.isSome_iff_exists.1 mirror
  have size : TileFields.SizeInRange f := ⟨w64, w1280, h48, h800⟩
  cases m with
  | linear =>
    refine ⟨⟨camera, f.x, f.y, f.w, f.h, .linear f.sx f.sy f.sw f.sh, r, f.fill⟩,
      asTile_eq_some.2 ⟨⟨hc.symm, rfl, rfl, rfl, rfl, hr.symm, rfl, hm, rfl, rfl, rfl, rfl⟩, size⟩,
      (insideCanvas_iff _).2 inside, ?_⟩
    simpa [Tile.windowFits, and_assoc] using window hm
  | mesh =>
    exact ⟨⟨camera, f.x, f.y, f.w, f.h, .mesh ⟨f.slot, Nat.lt_succ_of_le (slot hm)⟩, r, f.fill⟩,
      asTile_eq_some.2 ⟨⟨hc.symm, rfl, rfl, rfl, rfl, hr.symm, rfl, hm, rfl⟩, size⟩, (insideCanvas_iff _).2 inside, rfl⟩

/-- Tests 3 to 5 of R76, as the model makes them, are those that Safety.lean writes out. -/
theorem exists_taken_iff : (∃ t, TileFields.Taken cams f t) ↔ TileFields.acceptable f cams :=
  ⟨fun ⟨_, h⟩ => taken_acceptable h, acceptable_taken⟩

theorem taken_becomes (h : TileFields.Taken cams f t) : TileFields.becomes f t := (asTile_eq_some.1 h.1).1

/-- A tile of the table overlaps another exactly when the carried ones do (R76 test 6). -/
theorem taken_overlap (hf : TileFields.Taken cams f t) (hg : TileFields.Taken cams g u) :
    ¬TileFields.overlap f g ↔ ¬t.overlaps u = true := by
  obtain ⟨-, hx, hy, hw, hh, -⟩ := taken_becomes hf
  obtain ⟨-, gx, gy, gw, gh, -⟩ := taken_becomes hg
  rw [overlaps_iff, TileFields.overlap, hx, hy, hw, hh, gx, gy, gw, gh]

variable {fields : List TileFields} {tiles : List Tile}

theorem taken_noOverlap (h : List.Forall₂ (TileFields.Taken cams) fields tiles) :
    (fields.Pairwise fun f g => ¬TileFields.overlap f g) ↔ noOverlap tiles = true := by
  rw [noOverlap_iff]
  exact pairwise_iff_of_forall₂ (P := fun f g => ¬TileFields.overlap f g) (Q := fun t u => ¬t.overlaps u = true)
    (fun _ _ _ _ => taken_overlap) h

/-- The tiles of a DEFINE_VIEW are taken whole: their number, each of them, and then that no two overlap (R76). -/
theorem tilesOf_eq_some : tilesOf fields cams = some tiles ↔
    (1 ≤ fields.length ∧ fields.length ≤ 4) ∧ List.Forall₂ (TileFields.Taken cams) fields tiles ∧
      noOverlap tiles = true := by
  have taken : List.Forall₂ (TileFields.Taken cams) fields tiles ↔ fields.mapM TileFields.asTile = some tiles ∧
      ∀ t ∈ tiles, t.insideCanvas = true ∧ t.windowFits cams = true := by
    rw [mapM_eq_some_iff]
    exact forall₂_and_iff
  rw [taken]
  unfold tilesOf
  split
  · next made count hm =>
    have count : 1 ≤ fields.length ∧ fields.length ≤ 4 := by simpa [within] using count
    simp only [hm, Option.ite_none_right_eq_some, Option.some.injEq, Bool.and_eq_true, List.all_eq_true]
    constructor
    · rintro ⟨⟨⟨inside, fits⟩, apart⟩, rfl⟩
      exact ⟨count, ⟨rfl, fun t ht => ⟨inside t ht, fits t ht⟩⟩, apart⟩
    · rintro ⟨-, ⟨rfl, tests⟩, apart⟩
      exact ⟨⟨⟨fun t ht => (tests t ht).1, fun t ht => (tests t ht).2⟩, apart⟩, rfl⟩
  · next no =>
    simp only [reduceCtorEq, false_iff]
    rintro ⟨count, ⟨made, -⟩, -⟩
    exact no tiles (by simp [within, count]) made

/-- The tiles that a DEFINE_VIEW may carry (R76 tests 2 to 6). -/
def TileFields.LegalList (fields : List Sys2Proof.TileFields) (cams : Vector Cam 4) : Prop :=
  1 ≤ fields.length ∧ fields.length ≤ 4 ∧ (∀ f ∈ fields, TileFields.acceptable f cams) ∧
    fields.Pairwise fun f g => ¬TileFields.overlap f g

theorem exists_tilesOf_iff : (∃ tiles, tilesOf fields cams = some tiles) ↔ TileFields.LegalList fields cams := by
  simp only [tilesOf_eq_some, TileFields.LegalList, ← exists_taken_iff, ← exists_forall₂_iff]
  constructor
  · rintro ⟨tiles, count, taken, apart⟩
    exact ⟨count.1, count.2, ⟨tiles, taken⟩, (taken_noOverlap taken).2 apart⟩
  · rintro ⟨least, most, ⟨tiles, taken⟩, apart⟩
    exact ⟨tiles, ⟨least, most⟩, taken, (taken_noOverlap taken).1 apart⟩

theorem tilesOf_becomes (h : tilesOf fields cams = some tiles) : List.Forall₂ TileFields.becomes fields tiles :=
  (tilesOf_eq_some.1 h).2.1.imp fun _ _ => taken_becomes

end

/-! ### DEFINE_VIEW (R76, R77) -/

section
variable {s : State} {n : Fin 16} {view : Nat} {fields : List TileFields} {tiles : List Tile}

/-- A view number above 15 or a list of tiles that fails a test is refused. -/
theorem answerDefineView_illegal (h : ¬(view ≤ 15 ∧ TileFields.LegalList fields s.cams)) :
    answerDefineView view fields s = refuse s .badValue := by
  unfold answerDefineView
  split
  · next n ts hn ht =>
    have small : view ≤ 15 := by
      have := asIndex_eq_some.1 hn
      omega
    exact absurd ⟨small, exists_tilesOf_iff.1 ⟨ts, ht⟩⟩ h
  · rfl

/-- The overlay list that the table holds for a view, empty for an undefined one (R77). -/
def overlaysOf (views : Vector (Option View) 16) (n : Fin 16) : List Prim :=
  match views[n] with
  | some v => v.overlays
  | none => []

theorem overlaysOf_eq (views : Vector (Option View) 16) (n : Fin 16) :
    overlaysOf views n = ((views[n]).map View.overlays).getD [] := by
  unfold overlaysOf
  split
  · next v h => rw [h]; rfl
  · next h => rw [h]; rfl

/-- Legal tiles replace those of the view, whose overlay list stays (R77). -/
theorem answerDefineView_legal (h : tilesOf fields s.cams = some tiles) : answerDefineView n.val fields s =
    accept { s with views := s.views.set n (some ⟨tiles, overlaysOf s.views n⟩) } .nothing := by
  rw [answerDefineView, asIndex_val, h, overlaysOf_eq]
  rfl

end

/-- Settles O32: the tests of R76 are those of a legal list, and a legal list becomes the tiles of the view. -/
theorem defineViewTakenWhole : Obligations.DefineViewTakenWhole := by
  intro s h view count tiles hp hcount hlen fits a run legal
  have length := lengthCounts_eq hcount hlen fits
  refine ⟨fun illegal => request_refused hp length (answerDefineView_illegal illegal), ?_⟩
  intro n hn hl overlays
  subst hn
  obtain ⟨ts, hts⟩ := exists_tilesOf_iff.2 hl.2
  exact ⟨ts, tilesOf_becomes hts, request_accepted hp length (answerDefineView_legal hts)⟩

/-! ### Primitives (R83, R84) -/

section
variable {f : PrimFields} {p : Prim} {fields : List PrimFields} {prims : List Prim}

/-- A carried show-when field names what the table's field says. -/
def ShowFields.Becomes (f : Sys2Proof.ShowFields) : ShowWhen → Prop
  | .always => f = .always
  | .onSignal n wanted => f = .onSignal n.val (some wanted)

theorem asShow_eq_some {f : ShowFields} {w : ShowWhen} : f.asShow = some w ↔ ShowFields.Becomes f w := by
  cases f with
  | always => cases w <;> simp [ShowFields.asShow, ShowFields.Becomes]
  | onSignal n wanted =>
    unfold ShowFields.asShow
    split
    · next heq => cases heq
    · next heq =>
      cases heq
      split
      · next signal want hs =>
        rw [asIndex_eq_some] at hs
        cases w <;> simp [ShowFields.Becomes, ← hs, Fin.ext_iff]
      · next no =>
        cases w with
        | always => simp [ShowFields.Becomes]
        | onSignal k want =>
          simp only [reduceCtorEq, false_iff, ShowFields.Becomes]
          intro h
          cases h
          exact no k want (asIndex_val k) rfl

/-- Test 3 of R86 takes a primitive exactly when its geometry is in range and its other fields have values of the list. -/
theorem asPrim_eq_some : f.asPrim = some p ↔ PrimFields.becomes f p ∧ p.geometry.valid = true := by
  constructor
  · intro h
    unfold PrimFields.asPrim at h
    split at h
    · next g blink showWhen hg hb hw =>
      obtain ⟨valid, made⟩ := Option.ite_none_right_eq_some.1 h
      cases made
      exact ⟨⟨hg, rfl, rfl, hb, asShow_eq_some.1 hw⟩, valid⟩
    · cases h
  · obtain ⟨g, colour, alpha, blink, showWhen⟩ := p
    rintro ⟨⟨hg, rfl, rfl, hb, hw⟩, valid⟩
    rw [PrimFields.asPrim, hg, hb, asShow_eq_some.2 hw]
    exact if_pos valid

/-- The ranges of R83 and R84, as Safety.lean writes them out, are the model's tests. -/
theorem primAcceptable_iff : PrimFields.acceptable f ↔
    (∃ g, f.geometry = some g ∧ g.valid = true) ∧ f.blink.isSome = true ∧ ∃ w, f.showWhen.asShow = some w := by
  unfold PrimFields.acceptable
  refine and_congr ?_ (and_congr_right' ?_)
  · cases f.geometry with
    | none => simp
    | some g => cases g <;> simp [Geometry.valid, withinInt, within, and_assoc]
  · cases f.showWhen with
    | always => simp [ShowFields.asShow]
    | onSignal n wanted =>
      constructor
      · rintro ⟨small, coded⟩
        obtain ⟨want, rfl⟩ := Option.isSome_iff_exists.1 coded
        exact ⟨.onSignal ⟨n, by omega⟩ want, asShow_eq_some.2 rfl⟩
      · rintro ⟨w, hw⟩
        cases w with
        | always => cases asShow_eq_some.1 hw
        | onSignal k want =>
          cases asShow_eq_some.1 hw
          exact ⟨by omega, rfl⟩

theorem exists_asPrim_iff : (∃ p, f.asPrim = some p) ↔ PrimFields.acceptable f := by
  rw [primAcceptable_iff]
  constructor
  · rintro ⟨p, hp⟩
    obtain ⟨⟨hg, -, -, hb, hw⟩, valid⟩ := asPrim_eq_some.1 hp
    exact ⟨⟨_, hg, valid⟩, by simp [hb], _, asShow_eq_some.2 hw⟩
  · rintro ⟨⟨g, hg, valid⟩, coded, w, hw⟩
    obtain ⟨blink, hb⟩ := Option.isSome_iff_exists.1 coded
    exact ⟨⟨g, f.colour, min f.alpha 16, blink, w⟩,
      asPrim_eq_some.2 ⟨⟨hg, rfl, rfl, hb, asShow_eq_some.1 hw⟩, valid⟩⟩

theorem primsOf_eq_some : primsOf fields = some prims ↔
    (1 ≤ fields.length ∧ fields.length ≤ 12) ∧ List.Forall₂ (fun f p => f.asPrim = some p) fields prims := by
  simp [primsOf, within, mapM_eq_some_iff]

/-- The primitives that an OVERLAY_APPEND may carry (R86 step 3). -/
def PrimFields.LegalList (fields : List Sys2Proof.PrimFields) : Prop :=
  1 ≤ fields.length ∧ fields.length ≤ 12 ∧ ∀ f ∈ fields, PrimFields.acceptable f

theorem exists_primsOf_iff : (∃ prims, primsOf fields = some prims) ↔ PrimFields.LegalList fields := by
  simp only [primsOf_eq_some, PrimFields.LegalList, exists_and_left, exists_forall₂_iff, exists_asPrim_iff, and_assoc]

theorem primsOf_becomes (h : primsOf fields = some prims) : List.Forall₂ PrimFields.becomes fields prims :=
  (primsOf_eq_some.1 h).2.imp fun _ _ taken => (asPrim_eq_some.1 taken).1

end

/-! ### OVERLAY_CLEAR and OVERLAY_APPEND (R82, R86, R87) -/

section
variable {s : State} {n : Fin 16} {view : Nat}

theorem answerOverlayClear_above (h : 15 < view) : answerOverlayClear view s = refuse s .badValue := by
  rw [answerOverlayClear, asIndex_none h]

theorem answerOverlayClear_undefined (h : s.views[n] = none) : answerOverlayClear n.val s = refuse s .notFound := by
  rw [answerOverlayClear, asIndex_val]
  dsimp only
  rw [h]

theorem answerOverlayClear_defined {v : View} (h : s.views[n] = some v) : answerOverlayClear n.val s =
    accept { s with views := s.views.set n (some { v with overlays := [] }) } .nothing := by
  rw [answerOverlayClear, asIndex_val]
  dsimp only
  rw [h]
  rfl

variable {fields : List PrimFields}

theorem answerOverlayAppend_above (h : 15 < view) : answerOverlayAppend view fields s = refuse s .badValue := by
  rw [answerOverlayAppend, asIndex_none h]

theorem answerOverlayAppend_undefined (h : s.views[n] = none) :
    answerOverlayAppend n.val fields s = refuse s .notFound := by
  rw [answerOverlayAppend, asIndex_val]
  dsimp only
  rw [h]

variable {v : View} (hv : s.views[n] = some v)
include hv

theorem answerOverlayAppend_illegal (h : ¬PrimFields.LegalList fields) :
    answerOverlayAppend n.val fields s = refuse s .badValue := by
  have none_made : primsOf fields = none :=
    Option.eq_none_iff_forall_ne_some.2 fun ps hps => h (exists_primsOf_iff.1 ⟨ps, hps⟩)
  rw [answerOverlayAppend, asIndex_val]
  dsimp only
  rw [hv, none_made]

/-- Legal primitives go to the end of the list, all or none: the limits are on the list with them (R82, R86). -/
theorem answerOverlayAppend_legal {prims : List Prim} (h : primsOf fields = some prims) :
    answerOverlayAppend n.val fields s =
      if (v.overlays ++ prims).length > 24 ∨ totalCost (v.overlays ++ prims) > 48 then refuse s .noSpace
      else accept { s with views := s.views.set n (some { v with overlays := v.overlays ++ prims }) }
        (.overlaySize (v.overlays ++ prims).length (totalCost (v.overlays ++ prims))) := by
  rw [answerOverlayAppend, asIndex_val]
  dsimp only
  rw [hv, h]
  rfl

end

/-- Settles O33: OVERLAY_CLEAR by the view it names, and OVERLAY_APPEND by the view, the primitives and the limits. -/
theorem overlayListGrowsAndClears : Obligations.OverlayListGrowsAndClears := by
  intro s h view hp a cost answers
  have costs : totalCost = cost := rfl
  refine ⟨fun hlen => ?_, fun count prims hcount hlen fits => ?_⟩
  · have length := lengthIs_eq hlen
    refine ⟨fun above => request_refused hp length (answerOverlayClear_above above), fun n hn hv => ?_,
      fun n v hn hv => ?_⟩
    · subst hn
      exact request_refused hp length (answerOverlayClear_undefined hv)
    · subst hn
      exact request_accepted hp length (answerOverlayClear_defined hv)
  · have length := lengthCounts_eq hcount hlen fits
    refine ⟨fun above => request_refused hp length (answerOverlayAppend_above above), fun n hn hv => ?_,
      fun n v hn hv => ?_⟩
    · subst hn
      exact request_refused hp length (answerOverlayAppend_undefined hv)
    · subst hn
      refine ⟨fun illegal => request_refused hp length (answerOverlayAppend_illegal hv illegal), fun legal => ?_⟩
      obtain ⟨ps, hps⟩ := exists_primsOf_iff.2 legal
      have answer := answerOverlayAppend_legal hv hps
      rw [costs] at answer
      exact ⟨ps, primsOf_becomes hps, fun full => request_refused hp length (answer.trans (if_pos full)),
        fun few cheap => request_accepted hp length (answer.trans (if_neg (by omega)))⟩

/-! ### DELETE_VIEW (R80) -/

section
variable {s : State} {n : Fin 16} {view : Nat}

/-- A view that something refers to: the default, the override, the selection, the latched view or an entry (R80 step 3). -/
def State.ViewNamed (s : State) (n : Fin 16) : Prop :=
  s.sel.defaultView = n ∨ (∃ o, s.sel.override = some o ∧ o.view = n) ∨ s.sel.selected = n ∨
    s.comp.latchedView = some n ∨ ∃ (i : Fin 16) (e : Entry), s.sel.entries[i] = some e ∧ e.config.view = n

theorem entryNames_iff : (s.sel.entries.toList.any fun e => e.map (fun e => e.config.view) == some n) = true ↔
    ∃ (i : Fin 16) (e : Entry), s.sel.entries[i] = some e ∧ e.config.view = n := by
  simp only [List.any_eq_true, Vector.mem_toList_iff, Vector.mem_iff_getElem, beq_iff_eq, Option.map_eq_some_iff]
  constructor
  · rintro ⟨_, ⟨i, hi, rfl⟩, e, he, named⟩
    exact ⟨⟨i, hi⟩, e, he, named⟩
  · rintro ⟨i, e, he, named⟩
    exact ⟨_, ⟨i.val, i.isLt, rfl⟩, e, he, named⟩

theorem viewReferenced_iff : s.viewReferenced n = true ↔ s.ViewNamed n := by
  simp only [State.viewReferenced, State.ViewNamed, Bool.or_eq_true, beq_iff_eq, Option.map_eq_some_iff, entryNames_iff,
    or_assoc]

theorem definedView_iff : s.definedView n = true ↔ s.views[n] ≠ none := Option.isSome_iff_ne_none

theorem answerDeleteView_above (h : 15 < view) : answerDeleteView view s = refuse s .badValue := by
  rw [answerDeleteView, asIndex_none h]

theorem answerDeleteView_undefined (h : s.views[n] = none) : answerDeleteView n.val s = refuse s .notFound := by
  have undefined : s.definedView n = false := Bool.eq_false_iff.2 fun d => definedView_iff.1 d h
  rw [answerDeleteView, asIndex_val]
  simp [undefined]

variable (defined : s.views[n] ≠ none)
include defined

theorem answerDeleteView_named (h : s.ViewNamed n) : answerDeleteView n.val s = refuse s .inUse := by
  rw [answerDeleteView, asIndex_val]
  simp [definedView_iff.2 defined, viewReferenced_iff.2 h]

theorem answerDeleteView_unnamed (h : ¬s.ViewNamed n) : answerDeleteView n.val s =
    accept { s with views := s.views.set n none } .nothing := by
  have free : s.viewReferenced n = false := Bool.eq_false_iff.2 fun r => h (viewReferenced_iff.1 r)
  rw [answerDeleteView, asIndex_val]
  simp [definedView_iff.2 defined, free, State.putView]

end

/-! ### READ_VIEW (R81) -/

section
variable {s : State} {n : Fin 16} {view : Nat} {part : ViewPart}

theorem answerReadView_bad (h : 15 < view ∨ part = .unknown ∨ ∃ k, part = .overlays k ∧ 24 ≤ k) :
    answerReadView view part s = refuse s .badValue := by
  unfold answerReadView
  split
  · rfl
  · next n hn =>
    have within : view ≤ 15 := by
      have := asIndex_eq_some.1 hn
      omega
    rcases h with above | rfl | ⟨k, rfl, hk⟩
    · omega
    · rfl
    · cases s.views[n] <;> exact if_pos hk

theorem answerReadView_undefined (hv : s.views[n] = none) (known : part ≠ .unknown)
    (first : ∀ k, part = .overlays k → k < 24) : answerReadView n.val part s = accept s .viewUndefined := by
  rw [answerReadView, asIndex_val]
  dsimp only
  rw [hv]
  cases part with
  | tiles => rfl
  | overlays k => exact if_neg (Nat.not_le.2 (first k rfl))
  | unknown => exact absurd rfl known

theorem answerReadView_tiles {v : View} (hv : s.views[n] = some v) : answerReadView n.val .tiles s =
    accept s (.viewTiles v.tiles v.overlays.length (totalCost v.overlays)) := by
  rw [answerReadView, asIndex_val]
  dsimp only
  rw [hv]

theorem answerReadView_overlays {v : View} (hv : s.views[n] = some v) {k : Nat} (hk : k < 24) :
    answerReadView n.val (.overlays k) s =
      accept s (.viewOverlays v.overlays.length (totalCost v.overlays) ((v.overlays.drop k).take 8)) := by
  rw [answerReadView, asIndex_val]
  dsimp only
  rw [hv]
  exact if_neg (Nat.not_le.2 hk)

end

/-- Settles O34: the tests of DELETE_VIEW in their order, and READ_VIEW part by part. -/
theorem viewsDeletedAndRead : Obligations.ViewsDeletedAndRead := by
  intro s h view hp a answers
  refine ⟨fun hlen => ?_, fun hlen part => ?_⟩
  · have length := lengthIs_eq hlen
    refine ⟨fun above => request_refused hp length (answerDeleteView_above above), fun n hn => ?_⟩
    subst hn
    exact ⟨fun undefined => request_refused hp length (answerDeleteView_undefined undefined),
      fun defined named => request_refused hp length (answerDeleteView_named defined named),
      fun defined unnamed => request_accepted hp length (answerDeleteView_unnamed defined unnamed)⟩
  · have length := lengthIs_eq hlen
    intro run bad
    refine ⟨fun hb => request_refused hp length (answerReadView_bad hb), fun n hn legal => ?_⟩
    subst hn
    obtain ⟨-, known, first⟩ : _ ∧ part ≠ .unknown ∧ ∀ k, part = .overlays k → k < 24 := by
      simpa only [bad, not_or, not_exists, not_and, Nat.not_le] using legal
    refine ⟨fun hv => request_accepted hp length (answerReadView_undefined hv known first), fun v hv => ⟨?_, ?_⟩⟩
    · rintro rfl
      exact request_accepted hp length (answerReadView_tiles hv)
    · rintro k rfl
      refine ⟨_, request_accepted hp length (answerReadView_overlays hv (first k rfl)), by simp, fun j hj => ?_⟩
      have small : j < 8 := by simp at hj; omega
      rw [List.getElem?_take_of_lt small, List.getElem?_drop]

end Sys2Proof.Machine
end

section
/-! The canvas pixels that a primitive covers (R88 to R92). -/

namespace Sys2Proof.Machine

/-! ### The rounding of a line's minor coordinate (R88) -/

theorem roundDiv_nonneg {q d : Int} (h : 0 ≤ q * d) : roundDiv q d = ((2 * q.natAbs + d.natAbs) / (2 * d.natAbs) : Nat) := by
  have sign : ¬q.sign * d.sign < 0 := by
    rw [← Int.sign_mul, Int.sign_neg_iff]
    omega
  simp [roundDiv, sign]

theorem roundDiv_neg {q d : Int} (h : q * d < 0) : roundDiv q d = -((2 * q.natAbs + d.natAbs) / (2 * d.natAbs) : Nat) := by
  have sign : q.sign * d.sign < 0 := by
    rw [← Int.sign_mul, Int.sign_neg_iff]
    omega
  simp [roundDiv, sign]

/-- The rounded quotient times the divisor: a multiple of the divisor with the sign of the dividend, whose size is within
half a divisor of it, and above it where it is half a divisor away. -/
theorem roundDiv_mul (q : Int) {d : Int} (hd : d ≠ 0) : ∃ p : Nat,
    2 * p ≤ 2 * q.natAbs + d.natAbs ∧ 2 * q.natAbs + d.natAbs < 2 * p + 2 * d.natAbs ∧
      (0 ≤ q ∧ roundDiv q d * d = p ∨ q ≤ 0 ∧ roundDiv q d * d = -p) := by
  have positive : 0 < 2 * d.natAbs := by omega
  generalize hn : (2 * q.natAbs + d.natAbs) / (2 * d.natAbs) = n
  have least : 2 * (n * d.natAbs) ≤ 2 * q.natAbs + d.natAbs := by
    have := Nat.div_mul_le_self (2 * q.natAbs + d.natAbs) (2 * d.natAbs)
    rw [hn] at this
    linarith
  have most : 2 * q.natAbs + d.natAbs < 2 * (n * d.natAbs) + 2 * d.natAbs := by
    have := Nat.lt_div_mul_add positive (a := 2 * q.natAbs + d.natAbs)
    rw [hn] at this
    linarith
  refine ⟨n * d.natAbs, least, most, ?_⟩
  rcases lt_or_gt_of_ne hd with down | up
  · have size : (d.natAbs : Int) = -d := by omega
    rcases lt_or_ge 0 q with hq | hq
    · left
      rw [roundDiv_neg (mul_neg_of_pos_of_neg hq down), hn]
      exact ⟨hq.le, by push_cast [size]; ring⟩
    · right
      rw [roundDiv_nonneg (mul_nonneg_of_nonpos_of_nonpos hq down.le), hn]
      exact ⟨hq, by push_cast [size]; ring⟩
  · have size : (d.natAbs : Int) = d := by omega
    rcases lt_or_ge q 0 with hq | hq
    · right
      rw [roundDiv_neg (mul_neg_of_neg_of_pos hq up), hn]
      exact ⟨hq.le, by push_cast [size]; ring⟩
    · left
      rw [roundDiv_nonneg (mul_nonneg hq up.le), hn]
      exact ⟨hq, by push_cast [size]; ring⟩

/-- The rounded quotient is nearest to the exact one, and of two that are as near it is the one farther from zero. -/
theorem roundDiv_nearest (q : Int) {d : Int} (hd : d ≠ 0) :
    |2 * (roundDiv q d * d - q)| ≤ |d| ∧
      (|2 * (roundDiv q d * d - q)| = |d| → |q| ≤ |roundDiv q d * d|) := by
  obtain ⟨p, least, most, side⟩ := roundDiv_mul q hd
  generalize roundDiv q d * d = m at side ⊢
  simp only [Int.abs_eq_natAbs]
  omega

/-! ### The marks (R91) -/

/-- A mark whose rows are given as numbers has the cells that their bits give, the most significant bit first. -/
theorem glyphCell_of_rows {g a b : Nat} {rows : List Nat} (h : glyphRows g = rows.map (BitVec.ofNat 16)) (ha : a < 16)
    (hb : b < rows.length) : glyphCell g a b = (rows.getD b 0).testBit (15 - a) := by
  have bit : 15 - a < 16 := by omega
  rw [glyphCell, h, List.getElem?_map, List.getElem?_eq_getElem hb, List.getD_eq_getElem _ _ hb]
  simp only [Option.map_some, ha, decide_true, Bool.true_and, BitVec.getLsbD_ofNat, bit]

/-! ### Rectangles, glyphs and bands (R88 to R91) -/

section
variable {x y X Y : Int}

theorem boxCovers_iff {w h : Nat} : boxCovers x y w h X Y = true ↔ x ≤ X ∧ X < x + w ∧ y ≤ Y ∧ Y < y + h := by
  simp only [boxCovers, Bool.and_eq_true, decide_eq_true_eq]
  omega

theorem rectCovers_iff {w h b : Nat} : rectCovers x y w h b X Y = true ↔
    (x ≤ X ∧ X < x + w ∧ y ≤ Y ∧ Y < y + h) ∧ ¬(x + b ≤ X ∧ X < x + w - b ∧ y + b ≤ Y ∧ Y < y + h - b) := by
  simp only [rectCovers, Bool.and_eq_true, Bool.or_eq_true, decide_eq_true_eq, boxCovers_iff]
  omega

/-- Scaled cell `k` of a row that begins at `x` holds the position that is `k` scales from it. -/
theorem cell_iff {scale : Nat} (hs : 1 ≤ scale) (hx : x ≤ X) (k : Nat) :
    (X - x).toNat / scale = k ↔ x + scale * k ≤ X ∧ X < x + scale * (k + 1) := by
  obtain ⟨n, rfl⟩ := Int.le.dest hx
  have position : (x + n - x).toNat = n := by omega
  rw [position, Nat.div_eq_iff hs, mul_add, mul_one, mul_comm k]
  omega

theorem glyphCovers_iff {g scale : Nat} (hs : 1 ≤ scale) : glyphCovers x y g scale X Y = true ↔
    ∃ a b : Nat, a < 16 ∧ b < 16 ∧ glyphCell g a b = true ∧
      x + scale * a ≤ X ∧ X < x + scale * (a + 1) ∧ y + scale * b ≤ Y ∧ Y < y + scale * (b + 1) := by
  simp only [glyphCovers, Bool.and_eq_true, boxCovers_iff]
  constructor
  · rintro ⟨⟨hx, hX, hy, hY⟩, set⟩
    obtain ⟨left, right⟩ := (cell_iff hs hx _).1 rfl
    obtain ⟨top, bottom⟩ := (cell_iff hs hy _).1 rfl
    refine ⟨_, _, ?_, ?_, set, left, right, top, bottom⟩
    · rw [Nat.div_lt_iff_lt_mul hs]
      omega
    · rw [Nat.div_lt_iff_lt_mul hs]
      omega
  · rintro ⟨a, b, ha, hb, set, left, right, top, bottom⟩
    have inner {k : Nat} (hk : k < 16) : (0 : Int) ≤ scale * k ∧ (scale : Int) * (k + 1) ≤ 16 * scale := by
      constructor
      · positivity
      · nlinarith
    have across := inner ha
    have down := inner hb
    have hx : x ≤ X := by linarith
    have hy : y ≤ Y := by linarith
    refine ⟨⟨hx, ?_, hy, ?_⟩, ?_⟩
    · push_cast; linarith
    · push_cast; linarith
    · rw [(cell_iff hs hx a).2 ⟨left, right⟩, (cell_iff hs hy b).2 ⟨top, bottom⟩]
      exact set

theorem inBand_iff {centre z : Int} {b : Nat} : inBand centre b z = true ↔
    centre - ((b - 1) / 2 : Nat) ≤ z ∧ z ≤ centre + (b / 2 : Nat) := by
  simp [inBand]

theorem between_iff {a b z : Int} : between a b z = true ↔ min a b ≤ z ∧ z ≤ max a b := by
  simp only [between, Bool.and_eq_true, decide_eq_true_eq]

end

/-! ### Lines (R88) -/

section
variable {x y x1 y1 X Y : Int} {b : Nat}

theorem lineCovers_point : lineCovers x y x y b X Y = (inBand x b X && inBand y b Y) := by
  simp [lineCovers]

theorem lineCovers_flat (h : |y1 - y| ≤ |x1 - x|) (hx : x1 ≠ x) : lineCovers x y x1 y1 b X Y =
    (between x x1 X && inBand (y + roundDiv ((X - x) * (y1 - y)) (x1 - x)) b Y) := by
  have apart : ¬(x1 - x = 0 ∧ y1 - y = 0) := by omega
  have flat : (x1 - x).natAbs ≥ (y1 - y).natAbs := by
    simp only [Int.abs_eq_natAbs] at h
    omega
  rw [lineCovers, if_neg apart, if_pos flat]

theorem lineCovers_steep (h : |x1 - x| < |y1 - y|) : lineCovers x y x1 y1 b X Y =
    (between y y1 Y && inBand (x + roundDiv ((Y - y) * (x1 - x)) (y1 - y)) b X) := by
  simp only [Int.abs_eq_natAbs] at h
  rw [lineCovers, if_neg (by omega), if_neg (by omega)]

end

/-! ### The canvas (R92) -/

section
variable {X Y : Int}

theorem canvas_iff : boxCovers 0 0 canvasW canvasH X Y = true ↔ 0 ≤ X ∧ X < 1280 ∧ 0 ≤ Y ∧ Y < 800 := by
  rw [boxCovers_iff, zero_add, zero_add]
  rfl

theorem covers_outside (g : Geometry) (h : ¬(0 ≤ X ∧ X < 1280 ∧ 0 ≤ Y ∧ Y < 800)) : Geometry.covers g X Y = false := by
  simp only [Geometry.covers, Bool.eq_false_iff.2 (mt canvas_iff.1 h), Bool.false_and]

variable (h : 0 ≤ X ∧ X < 1280 ∧ 0 ≤ Y ∧ Y < 800)
include h

theorem covers_line (x0 y0 x1 y1 : Int) (b : Nat) :
    Geometry.covers (.line x0 y0 x1 y1 b) X Y = lineCovers x0 y0 x1 y1 b X Y := by
  simp only [Geometry.covers, canvas_iff.2 h, Bool.true_and]

theorem covers_rect (x y : Int) (w k b : Nat) : Geometry.covers (.rect x y w k b) X Y = rectCovers x y w k b X Y := by
  simp only [Geometry.covers, canvas_iff.2 h, Bool.true_and]

theorem covers_box (x y : Int) (w k : Nat) : Geometry.covers (.box x y w k) X Y = boxCovers x y w k X Y := by
  simp only [Geometry.covers, canvas_iff.2 h, Bool.true_and]

theorem covers_glyph (x y : Int) (g s : Nat) : Geometry.covers (.glyph x y g s) X Y = glyphCovers x y g s X Y := by
  simp only [Geometry.covers, canvas_iff.2 h, Bool.true_and]

end

/-- Settles O54: the table of the marks row by row, and what each kind of primitive covers, inside and outside the canvas. -/
theorem primitivesCoverTheirPixels : Obligations.PrimitivesCoverTheirPixels := by
  refine ⟨fun g a b hg ha hb => ?_, fun X Y => ⟨covers_outside, fun hX0 hX hY0 hY x y => ?_⟩⟩
  · intro marks
    have table : glyphRows g = (marks.getD g []).map (BitVec.ofNat 16) ∧ (marks.getD g []).length = 16 := by
      interval_cases g <;> exact ⟨rfl, rfl⟩
    exact glyphCell_of_rows table.1 ha (by omega)
  have canvas : 0 ≤ X ∧ X < 1280 ∧ 0 ≤ Y ∧ Y < 800 := ⟨hX0, hX, hY0, hY⟩
  refine ⟨fun w h => ?_, fun w h b => ?_, fun g scale hs => ?_, fun b hb => ?_, fun x1 y1 b hb hf hx => ?_,
    fun x1 y1 b hb hs => ?_⟩
  · rw [covers_box canvas]; exact boxCovers_iff
  · rw [covers_rect canvas]; exact rectCovers_iff
  · rw [covers_glyph canvas]; exact glyphCovers_iff hs
  · rw [covers_line canvas, lineCovers_point, Bool.and_eq_true, inBand_iff, inBand_iff, and_assoc]
  · obtain ⟨near, away⟩ := roundDiv_nearest ((X - x) * (y1 - y)) (sub_ne_zero.2 hx)
    refine ⟨y + roundDiv ((X - x) * (y1 - y)) (x1 - x), ?_⟩
    rw [add_sub_cancel_left, covers_line canvas, lineCovers_flat hf hx, Bool.and_eq_true, between_iff, inBand_iff]
    exact ⟨near, away, Iff.rfl⟩
  · have hy : y1 - y ≠ 0 := by
      rintro e
      rw [e, abs_zero] at hs
      exact absurd hs (abs_nonneg _).not_gt
    obtain ⟨near, away⟩ := roundDiv_nearest ((Y - y) * (x1 - x)) hy
    refine ⟨x + roundDiv ((Y - y) * (x1 - x)) (y1 - y), ?_⟩
    rw [add_sub_cancel_left, covers_line canvas, lineCovers_steep hs, Bool.and_eq_true, between_iff, inBand_iff]
    exact ⟨near, away, Iff.rfl⟩

end Sys2Proof.Machine
end

section
/-! How a pixel of an output frame and of the monitor comes about (R85, R101, R103, R107, R110 to R112, R115, R116, R121). -/

namespace Sys2Proof.Machine

/-! ### Overlays (R85, R110) -/

section
variable {f : ComposedFrame} {p : Prim} {X Y : Nat} {out : Pixel}

/-- A primitive is visible: its signal has the wanted value and its blink phase is the visible one (R85). -/
theorem shows_iff : f.shows p = true ↔ (∀ n wanted, p.showWhen = .onSignal n wanted → f.signals[n] = wanted) ∧
    (p.blink = .slow → f.slowVisible = true) ∧ (p.blink = .fast → f.fastVisible = true) := by
  rw [ComposedFrame.shows, Bool.and_eq_true]
  refine and_congr ?_ ?_
  · cases p.showWhen <;> simp
  · cases p.blink <;> simp

theorem overlay_none (h : f.overlays = []) : f.overlay X Y out = out := by
  rw [ComposedFrame.overlay, h, List.foldl_nil]

/-- The newest primitive is drawn over what the older ones leave (R110). -/
theorem overlay_newest {l : List Prim} (h : f.overlays = l ++ [p]) : f.overlay X Y out =
    if f.shows p && Geometry.covers p.geometry X Y then
      blend p.alpha p.colour (ComposedFrame.overlay { f with overlays := l } X Y out)
    else ComposedFrame.overlay { f with overlays := l } X Y out := by
  rw [ComposedFrame.overlay, h, List.foldl_append]
  rfl

/-- A channel's mix is a channel value. -/
theorem mix_lt {alpha c o : Nat} (ha : alpha ≤ 16) (hc : c < 256) (ho : o < 256) :
    (alpha * c + (16 - alpha) * o + 8) / 16 < 256 := by
  have first : alpha * c ≤ alpha * 255 := Nat.mul_le_mul_left _ (by omega)
  have second : (16 - alpha) * o ≤ (16 - alpha) * 255 := Nat.mul_le_mul_left _ (by omega)
  omega

theorem blend_channels {alpha : Nat} (ha : alpha ≤ 16) (c o : Pixel) :
    (blend alpha c o).r.toNat = (alpha * c.r.toNat + (16 - alpha) * o.r.toNat + 8) / 16 ∧
    (blend alpha c o).g.toNat = (alpha * c.g.toNat + (16 - alpha) * o.g.toNat + 8) / 16 ∧
    (blend alpha c o).b.toNat = (alpha * c.b.toNat + (16 - alpha) * o.b.toNat + 8) / 16 :=
  ⟨Nat.mod_eq_of_lt (mix_lt ha c.r.isLt o.r.isLt), Nat.mod_eq_of_lt (mix_lt ha c.g.isLt o.g.isLt),
    Nat.mod_eq_of_lt (mix_lt ha c.b.isLt o.b.isLt)⟩

theorem pixel_eq {p q : Pixel} (hr : p.r.toNat = q.r.toNat) (hg : p.g.toNat = q.g.toNat) (hb : p.b.toNat = q.b.toNat) :
    p = q := by
  cases p
  cases q
  simpa only [Pixel.mk.injEq, ← BitVec.toNat_inj] using ⟨hr, hg, hb⟩

/-- A primitive of full weight replaces what it covers. -/
theorem blend_full (c o : Pixel) : blend 16 c o = c := by
  obtain ⟨hr, hg, hb⟩ := blend_channels (le_refl 16) c o
  exact pixel_eq (by omega) (by omega) (by omega)

/-- A primitive without weight leaves what it covers. -/
theorem blend_clear (c o : Pixel) : blend 0 c o = o := by
  obtain ⟨hr, hg, hb⟩ := blend_channels (Nat.zero_le 16) c o
  exact pixel_eq (by omega) (by omega) (by omega)

end

/-! ### The active area, and the one tile that a pixel lies in (R103) -/

section
variable {f : ComposedFrame} {t : LatchedTile} {cam : LatchedCamera} {X Y : Nat}

theorem inArea_iff {area : Nat × Nat} : inArea area X Y = true ↔ X < area.1 ∧ Y < area.2 := by
  simp only [inArea, Bool.and_eq_true, decide_eq_true_eq]

theorem holds_iff {t : Tile} : Tile.holds t X Y = true ↔ (t.x ≤ X ∧ X < t.x + t.w) ∧ t.y ≤ Y ∧ Y < t.y + t.h := by
  simp only [Tile.holds, Bool.and_eq_true, decide_eq_true_eq, and_assoc]

theorem pixel_outside (h : f.areaW ≤ X ∨ f.areaH ≤ Y) : f.pixel X Y = none :=
  if_neg (by rw [inArea_iff]; dsimp only; omega)

theorem pixel_inside (hX : X < f.areaW) (hY : Y < f.areaH) : f.pixel X Y = some (f.drawnPixel X Y) :=
  if_pos (inArea_iff.2 ⟨hX, hY⟩)

/-- Outside the tiles the overlays lie on black (R103). -/
theorem drawnPixel_background (h : ∀ t ∈ f.tiles, Tile.holds t.tile X Y = false) :
    f.drawnPixel X Y = f.overlay X Y (rgb 0 0 0) := by
  have none_found : (f.tiles.find? fun t => Tile.holds t.tile X Y) = none :=
    List.find?_eq_none.2 fun t ht => Bool.eq_false_iff.1 (h t ht)
  rw [ComposedFrame.drawnPixel, none_found]

/-- A pixel of the active area lies in one tile only, whose camera the frame has latched. -/
structure ComposedFrame.DrawsIn (f : ComposedFrame) (t : LatchedTile) (cam : LatchedCamera) (X Y : Nat) : Prop where
  column : X < f.areaW
  row : Y < f.areaH
  mem : t ∈ f.tiles
  inside : Tile.holds t.tile X Y = true
  alone : ∀ u ∈ f.tiles, u ≠ t → Tile.holds u.tile X Y = false
  camera : f.cams[t.tile.camera] = some cam

theorem ComposedFrame.DrawsIn.found (h : f.DrawsIn t cam X Y) :
    (f.tiles.find? fun t => Tile.holds t.tile X Y) = some t := by
  obtain ⟨u, hu⟩ := Option.isSome_iff_exists.1 ((List.find?_isSome (p := fun t : LatchedTile => Tile.holds t.tile X Y)).2
    ⟨t, h.mem, h.inside⟩)
  have holds : Tile.holds u.tile X Y = true := List.find?_some (p := fun t : LatchedTile => Tile.holds t.tile X Y) hu
  have same : u = t := by
    by_contra other
    simp [h.alone u (List.mem_of_find?_eq_some hu) other] at holds
  rw [hu, same]

/-- What a tile shows before the overlays and the marks: its fill, or the camera's pixel (R111). -/
def TileCase.base (kind : TileCase) (t : LatchedTile) (cam : LatchedCamera) (X Y : Nat) : Pixel :=
  match kind with
  | .picture (some rows) => cameraPixel t cam rows X Y
  | _ => t.tile.fill

/-- In a tile the pixel is drawn in the order of R103: the base, the overlays, the marks. -/
theorem ComposedFrame.DrawsIn.pixel (h : f.DrawsIn t cam X Y) {kind : TileCase}
    (hk : f.tileCase t cam (Y * f.areaW + X) = kind) :
    f.pixel X Y = some (f.marks t.tile cam kind X Y (f.overlay X Y (kind.base t cam X Y))) := by
  rw [pixel_inside h.column h.row, ComposedFrame.drawnPixel, h.found]
  dsimp only
  rw [h.camera, ← hk]
  rfl

/-! ### How a tile is drawn (R101, R111) -/

/-- A withdrawal does not act yet on the pixel at drawing position `pos` (R101). -/
def actsAfter (limit : Option Nat) (pos : Nat) : Prop := ∀ p, limit = some p → pos < p

theorem withdrawn_iff {limit : Option Nat} {pos : Nat} : withdrawn limit pos = true ↔ ¬actsAfter limit pos := by
  cases limit <;> simp [withdrawn, actsAfter]

/-- A tile that is not drawn as a mesh fault: LINEAR, or of a mesh that is not withdrawn yet (R98, R111). -/
def ComposedFrame.Drawable (f : ComposedFrame) (t : LatchedTile) (pos : Nat) : Prop :=
  t.decision = .linear ∨ ∃ nodes, t.decision = .mesh nodes ∧ actsAfter f.meshWithdrawnAt pos

theorem tileCase_fault {pos : Nat}
    (h : t.decision = .fault ∨ ∃ nodes, t.decision = .mesh nodes ∧ ¬actsAfter f.meshWithdrawnAt pos) :
    f.tileCase t cam pos = .meshFault := by
  rcases h with hd | ⟨nodes, hd, acts⟩
  · simp [ComposedFrame.tileCase, hd]
  · simp [ComposedFrame.tileCase, hd, withdrawn_iff.2 acts]

theorem withdrawn_false {limit : Option Nat} {pos : Nat} (h : actsAfter limit pos) : withdrawn limit pos = false :=
  Bool.eq_false_iff.2 (mt withdrawn_iff.1 (not_not.2 h))

theorem tileCase_noPicture {pos : Nat} (h : f.Drawable t pos) (hp : cam.picture = .absent ∨ cam.picture = .lost) :
    f.tileCase t cam pos = .noPicture := by
  rcases h with hd | ⟨nodes, hd, later⟩
  · rcases hp with hp | hp <;> simp [ComposedFrame.tileCase, hd, hp]
  · rcases hp with hp | hp <;> simp [ComposedFrame.tileCase, hd, hp, withdrawn_false later]

theorem tileCase_picture {pos : Nat} (h : f.Drawable t pos) (hp : cam.picture = .fresh ∨ cam.picture = .stale) :
    f.tileCase t cam pos = .picture (if withdrawn cam.withdrawnAt pos then none else cam.rows) := by
  rcases h with hd | ⟨nodes, hd, later⟩
  · rcases hp with hp | hp <;> simp [ComposedFrame.tileCase, hd, hp]
  · rcases hp with hp | hp <;> simp [ComposedFrame.tileCase, hd, hp, withdrawn_false later]

/-! ### The marks of a tile (R112) -/

theorem mark_covered {covers : Bool} (h : covers = true) (c out : Pixel) : mark covers c out = c := if_pos h

theorem mark_uncovered {covers : Bool} (h : ¬covers = true) (c out : Pixel) : mark covers c out = out := if_neg h

/-- A mark over a pixel, by where it is drawn. -/
theorem mark_cases {covers : Bool} {P : Prop} (h : covers = true ↔ P) (c out : Pixel) :
    (P → some (mark covers c out) = some c) ∧ (¬P → some (mark covers c out) = some out) :=
  ⟨fun yes => congrArg some (mark_covered (h.2 yes) _ _), fun no => congrArg some (mark_uncovered (mt h.1 no) _ _)⟩

/-- Of four marks drawn one over the other the last one that covers a pixel gives its colour. -/
theorem mark_layers {a b c d : Bool} {A B C D : Prop} (ha : a = true ↔ A) (hb : b = true ↔ B) (hc : c = true ↔ C)
    (hd : d = true ↔ D) (ca cb cc cd out : Pixel) :
    let pixel := mark a ca (mark b cb (mark c cc (mark d cd out)))
    (A → pixel = ca) ∧ (¬A → (B → pixel = cb) ∧ (¬B → C → pixel = cc) ∧ (¬B → ¬C → D → pixel = cd) ∧
      (¬B → ¬C → ¬D → pixel = out)) := by
  rw [← ha, ← hb, ← hc, ← hd]
  refine ⟨fun ya => mark_covered ya _ _, fun na => ⟨fun yb => ?_, fun nb yc => ?_, fun nb nc yd => ?_, fun nb nc nd => ?_⟩⟩
  · rw [mark_uncovered na, mark_covered yb]
  · rw [mark_uncovered na, mark_uncovered nb, mark_covered yc]
  · rw [mark_uncovered na, mark_uncovered nb, mark_uncovered nc, mark_covered yd]
  · rw [mark_uncovered na, mark_uncovered nb, mark_uncovered nc, mark_uncovered nd]

/-- The lens lies over the hourglass, this over the inner border, and this over the outer one (R112); the four hypotheses
name the places of the marks. -/
theorem marks_picture {tile : Tile} {rows : Option (List (List Pixel))} (out : Pixel) {lens glass near edge : Prop}
    (hl : glyphCovers (((f.visible tile).x : Int) + (f.visible tile).w - 8 - 16 * cornerScale (f.visible tile))
      ((f.visible tile).y + 8) 2 (cornerScale (f.visible tile)) X Y = true ↔ lens)
    (hg : glyphCovers ((f.visible tile).x + 8) ((f.visible tile).y + 8) 1 (cornerScale (f.visible tile)) X Y = true ↔ glass)
    (hn : inEdge (f.visible tile) 8 X Y = true ↔ near) (he : inEdge (f.visible tile) 4 X Y = true ↔ edge) :
    let outer := cam.picture = .stale ∧ f.slowVisible = true ∧ edge
    let inner := cam.clarity = .obscured ∧ near ∧ ¬edge
    let hourglass := cam.picture = .stale ∧ glass
    let pixel := f.marks tile cam (.picture rows) X Y out
    (cam.clarity = .obscured → lens → pixel = red) ∧ (cam.clarity = .degraded → lens → pixel = amber) ∧
    (¬((cam.clarity = .obscured ∨ cam.clarity = .degraded) ∧ lens) →
      (hourglass → pixel = amber) ∧ (¬hourglass → inner → pixel = red) ∧
      (¬hourglass → ¬inner → outer → pixel = amber) ∧ (¬hourglass → ¬inner → ¬outer → pixel = out)) := by
  intro outer inner hourglass pixel
  have lensDrawn : ((cam.clarity == .obscured || cam.clarity == .degraded) && glyphCovers
      (((f.visible tile).x : Int) + (f.visible tile).w - 8 - 16 * cornerScale (f.visible tile))
      ((f.visible tile).y + 8) 2 (cornerScale (f.visible tile)) X Y) = true ↔
      (cam.clarity = .obscured ∨ cam.clarity = .degraded) ∧ lens := by
    rw [Bool.and_eq_true, hl, Bool.or_eq_true, beq_iff_eq, beq_iff_eq]
  have glassDrawn : (cam.picture == .stale && glyphCovers ((f.visible tile).x + 8) ((f.visible tile).y + 8) 1
      (cornerScale (f.visible tile)) X Y) = true ↔ hourglass := by
    rw [Bool.and_eq_true, hg, beq_iff_eq]
  have innerDrawn : (cam.clarity == .obscured && inEdge (f.visible tile) 8 X Y && !inEdge (f.visible tile) 4 X Y) = true ↔
      inner := by
    rw [Bool.and_eq_true, Bool.and_eq_true, Bool.not_eq_true', Bool.eq_false_iff, Ne, hn, he, beq_iff_eq, and_assoc]
  have outerDrawn : (cam.picture == .stale && f.slowVisible && inEdge (f.visible tile) 4 X Y) = true ↔ outer := by
    rw [Bool.and_eq_true, Bool.and_eq_true, he, beq_iff_eq, and_assoc]
  obtain ⟨top, below⟩ := mark_layers lensDrawn glassDrawn innerDrawn outerDrawn
    (if cam.clarity == .obscured then red else amber) amber red amber out
  refine ⟨fun obscured covers => ?_, fun degraded covers => ?_, below⟩
  · exact (top ⟨.inl obscured, covers⟩).trans (by rw [obscured]; rfl)
  · exact (top ⟨.inr degraded, covers⟩).trans (by rw [degraded]; rfl)

/-! ### The places and the scales of the marks (R112) -/

/-- A canvas pixel lies in a set cell of mark `g`, drawn at `scale` from (x, y) (R91). -/
def InMark (g : Nat) (scale x y : Int) (X Y : Nat) : Prop :=
  ∃ a b : Nat, a < 16 ∧ b < 16 ∧ glyphCell g a b = true ∧
    x + scale * a ≤ X ∧ X < x + scale * (a + 1) ∧ y + scale * b ≤ Y ∧ Y < y + scale * (b + 1)

theorem inMark_iff {g scale : Nat} (hs : 1 ≤ scale) {x y : Int} :
    glyphCovers x y g scale X Y = true ↔ InMark g scale x y X Y :=
  glyphCovers_iff hs

theorem centreScale_eq (v : Window) :
    (centreScale v : Int) = max 1 (min (min (v.w : Int) v.h / 64) 4) := by
  simp only [centreScale, clampNat]
  omega

theorem centreScale_pos (v : Window) : 1 ≤ centreScale v := le_max_left _ _

theorem cornerScale_eq (v : Window) : (cornerScale v : Int) = if 96 ≤ min (v.w : Int) v.h then 2 else 1 := by
  simp only [cornerScale]
  split <;> split <;> omega

theorem cornerScale_pos (v : Window) : 1 ≤ cornerScale v := by
  unfold cornerScale
  split <;> omega

theorem centredGlyph_iff {v : Window} {g : Nat} : centredGlyph v g X Y = true ↔
    InMark g (centreScale v) (v.x + ((v.w : Int) - 16 * centreScale v) / 2)
      (v.y + ((v.h : Int) - 16 * centreScale v) / 2) X Y :=
  inMark_iff (centreScale_pos v)

/-- A pixel of the rectangle at (x, y) of `w` by `k` lies within `n` of an edge of it. -/
def InRing (x y w k n : Int) (X Y : Nat) : Prop :=
  (X : Int) < x + n ∨ x + w - n ≤ X ∨ (Y : Int) < y + n ∨ y + k - n ≤ Y

/-- The visible rectangle of the tile that a pixel lies in, by its corners (R103). -/
theorem ComposedFrame.DrawsIn.visible (h : f.DrawsIn t cam X Y) :
    ((f.visible t.tile).w : Int) = min ((t.tile.x : Int) + t.tile.w) f.areaW - t.tile.x ∧
    ((f.visible t.tile).h : Int) = min ((t.tile.y : Int) + t.tile.h) f.areaH - t.tile.y := by
  have column := h.column
  have row := h.row
  have inside := holds_iff.1 h.inside
  simp only [ComposedFrame.visible]
  omega

theorem ComposedFrame.DrawsIn.inEdge_iff (h : f.DrawsIn t cam X Y) (n : Nat) :
    let vw : Int := min ((t.tile.x : Int) + t.tile.w) f.areaW - t.tile.x
    let vh : Int := min ((t.tile.y : Int) + t.tile.h) f.areaH - t.tile.y
    inEdge (f.visible t.tile) n X Y = true ↔ InRing t.tile.x t.tile.y vw vh n X Y := by
  have column := h.column
  have row := h.row
  have inside := holds_iff.1 h.inside
  obtain ⟨width, height⟩ := h.visible
  have corner : (f.visible t.tile).x = t.tile.x ∧ (f.visible t.tile).y = t.tile.y := ⟨rfl, rfl⟩
  simp only [inEdge, rectCovers_iff, InRing]
  omega

end

/-! ### The pixel of a tile (R103, R111, R112) -/

section
variable {f : ComposedFrame} {t : LatchedTile} {cam : LatchedCamera} {X Y : Nat}

variable (h : f.DrawsIn t cam X Y)
include h

/-- The centred glyph of a tile, by the scale and the place that R112 gives for its visible rectangle. -/
theorem ComposedFrame.DrawsIn.centred_iff (g : Nat) :
    let vw : Int := min ((t.tile.x : Int) + t.tile.w) f.areaW - t.tile.x
    let vh : Int := min ((t.tile.y : Int) + t.tile.h) f.areaH - t.tile.y
    let sc : Int := max 1 (min (min vw vh / 64) 4)
    centredGlyph (f.visible t.tile) g X Y = true ↔
      InMark g sc (t.tile.x + (vw - 16 * sc) / 2) (t.tile.y + (vh - 16 * sc) / 2) X Y := by
  obtain ⟨width, height⟩ := h.visible
  rw [centredGlyph_iff, centreScale_eq, width, height]
  exact Iff.rfl

/-- A tile drawn as a mesh fault has the WARNING over its fill (R111, R112). -/
theorem ComposedFrame.DrawsIn.fault_pixel
    (hd : t.decision = .fault ∨ ∃ nodes, t.decision = .mesh nodes ∧ ¬actsAfter f.meshWithdrawnAt (Y * f.areaW + X)) :
    f.pixel X Y =
      some (mark (centredGlyph (f.visible t.tile) 3 X Y) (rgb 255 220 0) (f.overlay X Y t.tile.fill)) :=
  h.pixel (tileCase_fault hd)

/-- A drawable tile without a picture has CROSSED_CAMERA over its fill (R111, R112). -/
theorem ComposedFrame.DrawsIn.noPicture_pixel (hd : f.Drawable t (Y * f.areaW + X))
    (hp : cam.picture = .absent ∨ cam.picture = .lost) : f.pixel X Y =
      some (mark (centredGlyph (f.visible t.tile) 0 X Y) (rgb 255 255 255) (f.overlay X Y t.tile.fill)) :=
  h.pixel (tileCase_noPicture hd hp)

/-- What lies under the marks of a drawable tile with a picture: the overlays over the camera's pixel, or over the fill
when the claim was empty or the slot is withdrawn (R101, R111). -/
def ComposedFrame.pictured (f : ComposedFrame) (t : LatchedTile) (cam : LatchedCamera) (X Y : Nat) : Pixel :=
  f.overlay X Y (TileCase.base
    (.picture (if withdrawn cam.withdrawnAt (Y * f.areaW + X) then none else cam.rows)) t cam X Y)

omit h in
theorem pictured_camera {rows : List (List Pixel)} (hr : cam.rows = some rows)
    (later : actsAfter cam.withdrawnAt (Y * f.areaW + X)) :
    f.pictured t cam X Y = f.overlay X Y (cameraPixel t cam rows X Y) := by
  simp [ComposedFrame.pictured, withdrawn_false later, hr, TileCase.base]

omit h in
theorem pictured_fill (hn : cam.rows = none ∨ ¬actsAfter cam.withdrawnAt (Y * f.areaW + X)) :
    f.pictured t cam X Y = f.overlay X Y t.tile.fill := by
  rcases hn with hn | acts
  · simp [ComposedFrame.pictured, hn, TileCase.base]
  · simp [ComposedFrame.pictured, withdrawn_iff.2 acts, TileCase.base]

/-- A drawable tile with a picture has the marks of STALE, OBSCURED and DEGRADED over it (R112). -/
theorem ComposedFrame.DrawsIn.picture_pixel (hd : f.Drawable t (Y * f.areaW + X))
    (hp : cam.picture = .fresh ∨ cam.picture = .stale) :
    f.pixel X Y = some (f.marks t.tile cam (.picture none) X Y (f.pictured t cam X Y)) :=
  h.pixel (tileCase_picture hd hp)

/-- The marks of a tile with a picture, each by the place that R112 gives, and which of them lies over which. -/
theorem ComposedFrame.DrawsIn.marked (out : Pixel) :
    let vw : Int := min ((t.tile.x : Int) + t.tile.w) f.areaW - t.tile.x
    let vh : Int := min ((t.tile.y : Int) + t.tile.h) f.areaH - t.tile.y
    let sk : Int := if 96 ≤ min vw vh then 2 else 1
    let outer := cam.picture = .stale ∧ f.slowVisible = true ∧ InRing t.tile.x t.tile.y vw vh 4 X Y
    let inner := cam.clarity = .obscured ∧ InRing t.tile.x t.tile.y vw vh 8 X Y ∧ ¬InRing t.tile.x t.tile.y vw vh 4 X Y
    let hourglass := cam.picture = .stale ∧ InMark 1 sk (t.tile.x + 8) (t.tile.y + 8) X Y
    let lens := InMark 2 sk (t.tile.x + vw - 8 - 16 * sk) (t.tile.y + 8) X Y
    let pixel := f.marks t.tile cam (.picture none) X Y out
    (cam.clarity = .obscured → lens → pixel = red) ∧ (cam.clarity = .degraded → lens → pixel = amber) ∧
    (¬((cam.clarity = .obscured ∨ cam.clarity = .degraded) ∧ lens) →
      (hourglass → pixel = amber) ∧ (¬hourglass → inner → pixel = red) ∧
      (¬hourglass → ¬inner → outer → pixel = amber) ∧ (¬hourglass → ¬inner → ¬outer → pixel = out)) := by
  intro vw vh sk outer inner hourglass lens pixel
  obtain ⟨width, height⟩ := h.visible
  have scale : (cornerScale (f.visible t.tile) : Int) = sk := by rw [cornerScale_eq, width, height]
  have hlens : glyphCovers ((t.tile.x : Int) + (f.visible t.tile).w - 8 - 16 * cornerScale (f.visible t.tile))
      (t.tile.y + 8) 2 (cornerScale (f.visible t.tile)) X Y = true ↔ lens := by
    rw [inMark_iff (cornerScale_pos _), scale, width]
  have hglass : glyphCovers ((t.tile.x : Int) + 8) (t.tile.y + 8) 1 (cornerScale (f.visible t.tile)) X Y = true ↔
      InMark 1 sk (t.tile.x + 8) (t.tile.y + 8) X Y := by
    rw [inMark_iff (cornerScale_pos _), scale]
  exact marks_picture out hlens hglass (h.inEdge_iff 8) (h.inEdge_iff 4)

end

/-! ### What the monitor shows (R103, R115, R116, R121) -/

section
variable {s : State} {X Y : Nat}

theorem displayPixel_unpowered (h : s.powered = false) : s.displayPixel X Y = none := by
  simp [State.displayPixel, h]

theorem displayPixel_powered (h : s.powered = true) : s.displayPixel X Y = s.screen.bind fun p => p.pixel X Y := by
  simp [State.displayPixel, h]

theorem displayPixel_composed (h : s.powered = true) (hs : s.disp.sending = .composed) {ctx : Context}
    (hc : s.comp.context = some ctx) : s.displayPixel X Y = ctx.frame.pixel X Y := by
  simp [displayPixel_powered h, State.screen, hs, hc, Screen.pixel]

theorem displayPixel_black (h : s.powered = true) (hs : s.disp.sending = .black) : s.displayPixel X Y =
    if inArea (areaOf s.disp.current) X Y then some (rgb 0 0 0) else none := by
  simp [displayPixel_powered h, State.screen, hs, Screen.pixel]

theorem displayPixel_repeated (h : s.powered = true) (hs : s.disp.sending = .repeatFrame) : s.displayPixel X Y =
    if inArea (areaOf s.disp.current) X Y then some (repeatPixel s.disp.heldPicture s.disp.current X Y) else none := by
  simp [displayPixel_powered h, State.screen, hs, Screen.pixel]

/-- Every timing's active area is wide and high enough for what a repeat frame draws on it (R115). -/
theorem areaOf_least (timing : Timing) : 800 ≤ (areaOf timing).1 ∧ 480 ≤ (areaOf timing).2 := by
  cases timing <;> simp [areaOf]

/-- The white border of a repeat frame (R121). -/
def InBorder (area : Nat × Nat) (X Y : Nat) : Prop := X < 6 ∨ area.1 ≤ X + 6 ∨ Y < 6 ∨ area.2 ≤ Y + 6

/-- A set cell of the FROZEN glyph of a repeat frame (R121). -/
def InFrozen (area : Nat × Nat) (X Y : Nat) : Prop :=
  ∃ a b : Nat, a < 16 ∧ b < 16 ∧ glyphCell 4 a b = true ∧
    (area.1 - 32) / 2 + 2 * a ≤ X ∧ X < (area.1 - 32) / 2 + 2 * (a + 1) ∧ 12 + 2 * b ≤ Y ∧ Y < 12 + 2 * (b + 1)

variable {timing : Timing}

theorem border_iff (hX : X < (areaOf timing).1) (hY : Y < (areaOf timing).2) :
    rectCovers 0 0 (areaOf timing).1 (areaOf timing).2 6 X Y = true ↔ InBorder (areaOf timing) X Y := by
  rw [rectCovers_iff, InBorder]
  omega

theorem frozen_iff : glyphCovers (((areaOf timing).1 - 32 : Int) / 2) 12 4 2 X Y = true ↔ InFrozen (areaOf timing) X Y := by
  obtain ⟨wide, -⟩ := areaOf_least timing
  rw [glyphCovers_iff (by omega)]
  refine exists_congr fun a => exists_congr fun b => and_congr_right' (and_congr_right' (and_congr_right' ?_))
  omega

section
variable (h : s.powered = true) (hs : s.disp.sending = .repeatFrame) (inside : inArea (areaOf s.disp.current) X Y = true)
include h hs inside

/-- The border and the FROZEN glyph of a repeat frame are white (R121). -/
theorem displayPixel_frozen
    (drawn : InBorder (areaOf s.disp.current) X Y ∨ InFrozen (areaOf s.disp.current) X Y) :
    s.displayPixel X Y = some (rgb 255 255 255) := by
  obtain ⟨hX, hY⟩ := inArea_iff.1 inside
  rw [displayPixel_repeated h hs, if_pos inside, repeatPixel, Option.some.injEq]
  rcases drawn with border | frozen
  · rw [mark_covered ((border_iff hX hY).2 border)]
    exact ite_self _
  · exact mark_covered (frozen_iff.2 frozen) _ _

/-- Elsewhere a repeat frame shows the held picture, black where there is none (R121). -/
theorem displayPixel_held (border : ¬InBorder (areaOf s.disp.current) X Y)
    (frozen : ¬InFrozen (areaOf s.disp.current) X Y) :
    s.displayPixel X Y = some ((s.disp.heldPicture.bind fun f => f.pixel X Y).getD (rgb 0 0 0)) := by
  obtain ⟨hX, hY⟩ := inArea_iff.1 inside
  rw [displayPixel_repeated h hs, if_pos inside, repeatPixel, Option.some.injEq]
  rw [mark_uncovered (mt frozen_iff.1 frozen), mark_uncovered (mt (border_iff hX hY).1 border)]

end

end

/-- Settles O55: a composed frame's pixel by its tile, the overlays one over the other, and the monitor by what is sent. -/
theorem pixelsAreDrawnByTheirTile : Obligations.PixelsAreDrawnByTheirTile := by
  refine ⟨fun f X Y => ⟨pixel_outside, fun hX hY => ⟨fun bare => ?_, ?_⟩⟩, fun f X Y out => ⟨overlay_none, ?_⟩, ?_⟩
  · rw [pixel_inside hX hY, drawnPixel_background bare]
  · intro t cam mem inside alone camera pos vx vy vw vh cell ring sc sk centred before drawable filled amber red
    have h : f.DrawsIn t cam X Y := ⟨hX, hY, mem, inside, alone, camera⟩
    refine ⟨fun fault => ?_, fun drawn absent => ?_, fun drawn present => ⟨f.pictured t cam X Y, ?_⟩⟩
    · rw [h.fault_pixel fault]
      exact mark_cases (h.centred_iff 3) _ _
    · rw [h.noPicture_pixel drawn absent]
      exact mark_cases (h.centred_iff 0) _ _
    · refine ⟨fun rows hr later => pictured_camera hr later, pictured_fill, ?_⟩
      rw [h.picture_pixel drawn present]
      simp only [Option.some.injEq]
      exact h.marked _
  · intro l p newest below visible drawn mixed
    have shown : (f.shows p && Geometry.covers p.geometry X Y) = true ↔ drawn := by rw [Bool.and_eq_true, shows_iff]
    have drawnOver (yes : drawn) : f.overlay X Y out = blend p.alpha p.colour below :=
      (overlay_newest newest).trans (if_pos (shown.2 yes))
    refine ⟨fun no => (overlay_newest newest).trans (if_neg (mt shown.1 no)), fun yes small => ?_, fun yes full => ?_,
      fun yes clear => ?_⟩
    · rw [drawnOver yes]
      exact blend_channels small _ _
    · rw [drawnOver yes, full, blend_full]
    · rw [drawnOver yes, clear, blend_clear]
  · intro s X Y aw ah timed outside
    have area : areaOf s.disp.current = (aw, ah) := timed.symm
    have drawn (inside : ¬outside) : inArea (areaOf s.disp.current) X Y = true := by
      rw [area, inArea_iff]
      exact ⟨not_le.1 fun c => inside (.inl c), not_le.1 fun c => inside (.inr c)⟩
    have blank (out : outside) : ¬inArea (areaOf s.disp.current) X Y = true := by
      rw [area, inArea_iff]
      exact fun inside => out.elim inside.1.not_ge inside.2.not_ge
    refine ⟨displayPixel_unpowered, fun on off => ⟨fun empty => ?_, fun t ht same => ?_⟩, fun t ht hs off kept => ?_,
      fun on ctx composed latched => displayPixel_composed on composed latched,
      fun on black => ⟨fun out => ?_, fun inside => ?_⟩, fun on repeated => ?_⟩
    · rw [displayPixel_powered on, screen_off off, empty]
      rfl
    · exact displayPixel_congr (on.trans ht.symm) ((screen_off off).trans same.symm) X Y
    · exact displayPixel_congr (ht.trans hs.symm) ((screen_off off).trans kept) X Y
    · exact (displayPixel_black on black).trans (if_neg (blank out))
    · exact (displayPixel_black on black).trans (if_pos (drawn inside))
    · intro border frozen
      have byArea {P : Nat × Nat → Nat → Nat → Prop} : P (areaOf s.disp.current) X Y ↔ P (aw, ah) X Y := by rw [area]
      refine ⟨fun out => (displayPixel_repeated on repeated).trans (if_neg (blank out)),
        fun inside white => displayPixel_frozen on repeated (drawn inside) (white.imp byArea.2 byArea.2),
        fun inside noBorder noFrozen => ?_⟩
      rw [displayPixel_held on repeated (drawn inside) (mt byArea.1 noBorder) (mt byArea.1 noFrozen)]
      exact ⟨fun black => by rw [black]; rfl, fun f p held shown => by rw [held, Option.bind_some, shown]; rfl⟩

end Sys2Proof.Machine
end

section
/-! What an output frame start does outside plain RUNNING, and the display output's timers (R102, R116, R118, R119, R121, R122). -/

set_option Elab.async false

namespace Sys2Proof.Machine

/-! ### The output frame start, state by state (R116) -/

section
variable {s : State}

theorem startFrame_starting (h : s.disp.state = .starting) : s.startFrame = some (s.beginFrame .black) := by
  simp only [State.startFrame, h]

theorem startFrame_hold (h : s.disp.state = .hold) : s.startFrame = some s.beginRepeat := by
  simp only [State.startFrame, h]

/-- What a frame that ends adds to the display output is its count and the held picture (R121, R124). -/
theorem ended_eq (d : Display) (c : Option Context) :
    d.ended c = { d with framesShown := (d.ended c).framesShown, heldPicture := (d.ended c).heldPicture } := by
  cases c <;> rfl

/-- The stop target OFF (R119). -/
theorem startFrame_stopsOff (h : s.disp.state = .stopping) (target : s.disp.stopToStarting = false) :
    s.startFrame = some (State.discardContext { s with disp := (s.disp.ended s.comp.context).enterOff s.screen }) := by
  have ended : (s.disp.ended s.comp.context).stopToStarting = false := by rw [ended_eq]; exact target
  simp only [State.startFrame, h, endComposedFrame_eq, State.enterStopTarget, ended, Bool.false_eq_true, if_false]

/-- The stop target STARTING, at a staged timing if there is one (R119). -/
theorem startFrame_stopsStarting (h : s.disp.state = .stopping) (target : s.disp.stopToStarting = true) :
    s.startFrame = some (State.discardContext { s with disp := Display.enterStarting { s.disp.ended s.comp.context with
      current := s.disp.staged.getD s.disp.current, staged := none } s.clock }) := by
  have ended : (s.disp.ended s.comp.context).stopToStarting = true := by rw [ended_eq]; exact target
  simp only [State.startFrame, h, endComposedFrame_eq, State.enterStopTarget, ended, if_true, Display.takeStaged]
  rw [ended_eq]

/-- A pending hold is entered, with a repeat frame (R121). -/
theorem startFrame_holds (h : s.disp.state = .running) (hh : s.disp.holdPending = true) :
    s.startFrame = some (State.discardContext { s with disp := { s.disp.ended s.comp.context with
      state := .hold, holdPending := false, holdTimer := some (s.clock + millis holdMs)
      framesRepeated := bump s.disp.framesRepeated, sending := .repeatFrame
      nextStart := s.disp.nextStart.map (· + framePeriod) } }) := by
  have ended : (s.disp.ended s.comp.context).holdPending = true := by rw [ended_eq]; exact hh
  simp only [State.startFrame, h, endComposedFrame_eq, ended, if_true]
  rw [ended_eq]
  rfl

/-- There is no frame start when the selected view is undefined (R79, R96). -/
theorem startFrame_undefined (h : s.disp.state = .running) (hh : s.disp.holdPending = false)
    (hv : s.views[s.sel.selected] = none) : s.startFrame = none := by
  have ended : (s.disp.ended s.comp.context).holdPending = false := by rw [ended_eq]; exact hh
  simp only [State.startFrame, h, endComposedFrame_eq, ended, hv, Bool.false_eq_true, if_false, Option.map_none]

/-- In OFF no output frame start occurs. -/
theorem exec_outputFrameStart_off (h : s.disp.state = .off) : exec .outputFrameStart s = .next s :=
  if_neg fun on => on.2 h

/-- In every other state the frame start is the one the output state gives, at its instant. -/
theorem exec_outputFrameStart_on (hp : s.powered = true) (hn : s.disp.state ≠ .off) {t : State}
    (ht : (s.atInstant s.disp.nextStart).startFrame = some t) : exec .outputFrameStart s = .next t.settle := by
  have run : exec .outputFrameStart s = execOutputFrameStart s := rfl
  rw [run, execOutputFrameStart, if_pos ⟨hp, hn⟩, ht]

/-! ### The timers (R118, R122) -/

theorem runs_false {state wanted : OutputState} {timer : Timer} (h : state ≠ wanted ∨ timer = none) :
    (state == wanted && timer.isSome) = false := by
  rcases h with h | h <;> simp [h]

theorem runs_true {state wanted : OutputState} {timer : Timer} {d : Nat} (h : state = wanted) (ht : timer = some d) :
    (state == wanted && timer.isSome) = true := by
  simp [h, ht]

theorem exec_settleTimerExpiry_idle (h : s.disp.state ≠ .starting ∨ s.disp.settleTimer = none) :
    exec .settleTimerExpiry s = .next s :=
  Eq.trans (b := execSettleTimerExpiry s) rfl (event_idle s _ (runs_false h))

theorem exec_holdTimerExpiry_idle (h : s.disp.state ≠ .hold ∨ s.disp.holdTimer = none) :
    exec .holdTimerExpiry s = .next s :=
  Eq.trans (b := execHoldTimerExpiry s) rfl (event_idle s _ (runs_false h))

theorem exec_settleTimerExpiry (hp : s.powered = true) {d : Nat} (h : s.disp.state = .starting)
    (hd : s.disp.settleTimer = some d) : exec .settleTimerExpiry s = .next (State.settle { s with
      clock := max s.clock d, disp := { s.disp with state := .running, settleTimer := none } }) := by
  have run := event_occurs (fun s : State =>
    let t := s.atInstant s.disp.settleTimer
    { t with disp := { t.disp with state := .running, settleTimer := none } }) hp (runs_true h hd)
  refine Eq.trans run ?_
  simp only [State.atInstant, hd, Option.getD_some]

theorem exec_holdTimerExpiry (hp : s.powered = true) {d : Nat} (h : s.disp.state = .hold)
    (hd : s.disp.holdTimer = some d) : exec .holdTimerExpiry s = .next (State.settle { s with
      clock := max s.clock d, disp := s.disp.leaveHold (max s.clock d) }) := by
  have run := event_occurs (fun s : State =>
    let t := s.atInstant s.disp.holdTimer
    { t with disp := t.disp.leaveHold t.clock }) hp (runs_true h hd)
  refine Eq.trans run ?_
  simp only [State.atInstant, hd, Option.getD_some]

end

/-- Settles O39: the frame starts by the equations of `startFrame`, the timers by the events they are. -/
theorem outputFramesAndTimersByState : Obligations.OutputFramesAndTimersByState := by
  constructor
  · intro s hp t next repeated ended discarded run
    have endedEq : ended = s.disp.ended s.comp.context := by
      simp only [ended]
      cases s.comp.context <;> rfl
    have frame {u : State} (hn : s.disp.state ≠ .off) (hu : (s.atInstant s.disp.nextStart).startFrame = some u) :
        run = .next u.settle := exec_outputFrameStart_on hp hn hu
    refine ⟨exec_outputFrameStart_off, fun h => ?_, fun h => ?_, fun h target => ?_, fun h target => ?_,
      fun h pending => ?_⟩
    · exact frame (by rw [h]; nofun) (startFrame_starting (s := s.atInstant _) h)
    · exact frame (by rw [h]; nofun) (startFrame_hold (s := s.atInstant _) h)
    · rw [frame (by rw [h]; nofun) (startFrame_stopsOff (s := s.atInstant _) h target), endedEq]
      rfl
    · rw [frame (by rw [h]; nofun) (startFrame_stopsStarting (s := s.atInstant _) h target), endedEq]
      rfl
    · rw [frame (by rw [h]; nofun) (startFrame_holds (s := s.atInstant _) h pending), endedEq]
      rfl
  · intro s hp
    refine ⟨fun d h hd => exec_settleTimerExpiry hp h hd, exec_settleTimerExpiry_idle, fun d h hd =>
      ⟨fun x hx differs => ?_, fun same => ?_⟩, exec_holdTimerExpiry_idle⟩
    · rw [exec_holdTimerExpiry hp h hd, leaveHold_starting _ _ hx differs]
      rfl
    · rw [exec_holdTimerExpiry hp h hd, leaveHold_running _ _ same]

end Sys2Proof.Machine
end

section
/-! The display output in order: what each operation of the output, the composer and the signal unit keeps (R95, R102, R116 to R126). -/

set_option Elab.async false

namespace Sys2Proof.Machine

/-! ### The output in order, field by field -/

/-- The display output and the composer in order, in standby or not (R95, R102, R116, R125). -/
structure Display.Ordered (d : Display) (c : Composer) (standby : Bool) : Prop where
  settle : d.settleTimer.isSome = true ↔ d.state = .starting
  hold : d.holdTimer.isSome = true ↔ d.state = .hold
  next : d.nextStart.isSome = true ↔ d.state ≠ .off
  sends : d.sending = .nothing ↔ d.state = .off
  pending : d.holdPending = true → d.state = .running
  context : c.context.isSome = true → d.state = .running ∨ d.state = .stopping
  composed : d.sending = .composed → c.context.isSome = true
  fault : c.tileFault = true → c.context.isSome = true
  standby : standby = true → d.state = .off

theorem outputSafe_iff (s : State) : s.outputSafe ↔ s.disp.Ordered s.comp s.sig.standby :=
  ⟨fun ⟨settle, hold, next, sends, pending, context, composed, fault, standby⟩ =>
      ⟨settle, hold, next, sends, pending, context, composed, fault, standby⟩,
    fun h => ⟨h.settle, h.hold, h.next, h.sends, h.pending, h.context, h.composed, h.fault, h.standby⟩⟩

/-- The composer holds no context (R102). -/
structure Composer.Idle (c : Composer) : Prop where
  context : c.context.isSome = false
  fault : c.tileFault = false

section
variable {d e : Display} {c b : Composer} {standby : Bool}

/-- The order looks at the state, the timers, the frame being sent and the pending hold, and at whether the composer holds a context
and a tile fault. -/
theorem Display.Ordered.congr (h : d.Ordered c standby) (context : b.context.isSome = c.context.isSome := by rfl)
    (fault : b.tileFault = c.tileFault := by rfl) (state : e.state = d.state := by rfl)
    (settle : e.settleTimer = d.settleTimer := by rfl) (hold : e.holdTimer = d.holdTimer := by rfl)
    (next : e.nextStart = d.nextStart := by rfl) (sends : e.sending = d.sending := by rfl)
    (pending : e.holdPending = d.holdPending := by rfl) : e.Ordered b standby where
  settle := by rw [settle, state]; exact h.settle
  hold := by rw [hold, state]; exact h.hold
  next := by rw [next, state]; exact h.next
  sends := by rw [sends, state]; exact h.sends
  pending := by rw [pending, state]; exact h.pending
  context := by rw [context, state]; exact h.context
  composed := by rw [sends, context]; exact h.composed
  fault := by rw [fault, context]; exact h.fault
  standby := by rw [state]; exact h.standby

/-- Outside RUNNING and STOPPING the composer is idle (R102). -/
theorem Display.Ordered.idle (h : d.Ordered c standby) (rest : ¬(d.state = .running ∨ d.state = .stopping)) : c.Idle := by
  have none : ¬c.context.isSome = true := mt h.context rest
  exact ⟨Bool.not_eq_true _ ▸ none, Bool.not_eq_true _ ▸ mt h.fault none⟩

/-- In every state but OFF the part is awake (R125). -/
theorem Display.Ordered.awake (h : d.Ordered c standby) (on : d.state ≠ .off) : standby = false :=
  Bool.not_eq_true _ ▸ mt h.standby on

/-! ### Entries and exits (R116 to R122) -/

theorem enterStarting_ordered (d : Display) (hc : c.Idle) (now : Nat) : (d.enterStarting now).Ordered c false where
  settle := by simp [Display.enterStarting]
  hold := by simp [Display.enterStarting]
  next := by simp [Display.enterStarting]
  sends := by simp [Display.enterStarting]
  pending := by simp [Display.enterStarting]
  context := by simp [hc.context]
  composed := by simp [Display.enterStarting]
  fault := by simp [hc.fault]
  standby := nofun

theorem enterOff_ordered (d : Display) (hc : c.Idle) (shown : Option Screen) : (d.enterOff shown).Ordered c standby where
  settle := by simp [Display.enterOff]
  hold := by simp [Display.enterOff]
  next := by simp [Display.enterOff]
  sends := by simp [Display.enterOff]
  pending := by simp [Display.enterOff]
  context := by simp [hc.context]
  composed := by simp [Display.enterOff]
  fault := by simp [hc.fault]
  standby := fun _ => rfl

/-- A frame of another kind begins in any state but OFF, a composed one with its context (R116). -/
theorem Display.Ordered.beginFrame (h : d.Ordered c standby) (on : d.state ≠ .off) {k : Sending} (hk : k ≠ .nothing)
    (hc : k = .composed → c.context.isSome = true) :
    Display.Ordered { d with sending := k, nextStart := d.nextStart.map (· + framePeriod) } c standby where
  settle := h.settle
  hold := h.hold
  next := by simpa using h.next
  sends := ⟨fun e => absurd e hk, fun e => absurd e on⟩
  pending := h.pending
  context := h.context
  composed := hc
  fault := h.fault
  standby := h.standby

/-- RUNNING is entered from STARTING or HOLD, with both timers stopped (R118, R122). -/
theorem Display.Ordered.run (h : d.Ordered c standby) (on : d.state ≠ .off) {settle hold : Timer}
    (hs : settle.isSome = false) (hh : hold.isSome = false) (staged : Option Timing) :
    Display.Ordered { d with state := .running, settleTimer := settle, holdTimer := hold, staged := staged } c standby where
  settle := by simp [hs]
  hold := by simp [hh]
  next := ⟨fun _ => nofun, fun _ => h.next.2 on⟩
  sends := ⟨fun e => absurd (h.sends.1 e) on, nofun⟩
  pending := fun _ => rfl
  context := fun _ => .inl rfl
  composed := h.composed
  fault := h.fault
  standby := fun e => absurd (h.standby e) on

/-- RUNNING ends at the end of the frame in progress (R119, R126). -/
theorem Display.Ordered.stop (h : d.Ordered c standby) (running : d.state = .running) (target : Bool)
    (staged : Option Timing) :
    Display.Ordered { d with state := .stopping, holdPending := false, stopToStarting := target, staged := staged } c standby where
  settle := by simpa [running] using h.settle
  hold := by simpa [running] using h.hold
  next := by simpa [running] using h.next
  sends := by simpa [running] using h.sends
  pending := nofun
  context := fun _ => .inr rfl
  composed := h.composed
  fault := h.fault
  standby := by simpa [running] using h.standby

/-- HOLD is entered from RUNNING with a repeat frame (R121). -/
theorem Display.Ordered.enterHold (h : d.Ordered c standby) (running : d.state = .running) (hb : b.Idle) (deadline : Nat) :
    Display.Ordered { d with
      state := .hold, holdPending := false, holdTimer := some deadline
      sending := .repeatFrame, nextStart := d.nextStart.map (· + framePeriod) } b standby where
  settle := by simpa [running] using h.settle
  hold := by simp
  next := by simpa [running] using h.next
  sends := by simp
  pending := nofun
  context := by simp [hb.context]
  composed := nofun
  fault := by simp [hb.fault]
  standby := by simpa [running] using h.standby

/-- RUNNING takes a context from the composer (R95). -/
theorem Display.Ordered.takeContext (h : d.Ordered c standby) (running : d.state = .running)
    (hb : b.context.isSome = true) : d.Ordered b standby where
  settle := h.settle
  hold := h.hold
  next := h.next
  sends := h.sends
  pending := h.pending
  context := fun _ => .inl running
  composed := fun _ => hb
  fault := fun _ => hb
  standby := h.standby

/-- A pending hold is cancelled, or an accepted one noted in RUNNING (R120). -/
theorem Display.Ordered.notePending (h : d.Ordered c standby) {pending : Bool} (hp : pending = true → d.state = .running) :
    Display.Ordered { d with holdPending := pending } c standby where
  settle := h.settle
  hold := h.hold
  next := h.next
  sends := h.sends
  pending := hp
  context := h.context
  composed := h.composed
  fault := h.fault
  standby := h.standby

theorem Display.Ordered.leaveHold (h : d.Ordered c standby) (state : d.state = .hold) (now : Nat) :
    (d.leaveHold now).Ordered c standby := by
  have on : d.state ≠ .off := by simp [state]
  have settled : d.settleTimer.isSome = false := Bool.not_eq_true _ ▸ mt h.settle.1 (by simp [state])
  by_cases same : ∀ z, d.staged = some z → z = d.current
  · rw [leaveHold_running d now same]
    exact h.run on settled rfl none
  · push Not at same
    obtain ⟨z, hz, differs⟩ := same
    rw [leaveHold_starting d now hz differs, h.awake on]
    exact enterStarting_ordered _ (h.idle (by simp [state])) now

/-- What the moving signal does to the output (R120, R122). -/
theorem Display.Ordered.onMoving (h : d.Ordered c standby) (now : Nat) : (d.onMoving now).Ordered c standby := by
  cases state : d.state with
  | hold => rw [onMoving_hold d now state]; exact h.leaveHold state now
  | running => rw [onMoving_running d now state]; exact h.notePending nofun
  | off => rwa [onMoving_other d now (.inl state)]
  | starting => rwa [onMoving_other d now (.inr (.inl state))]
  | stopping => rwa [onMoving_other d now (.inr (.inr state))]

/-- What a load does to the output (R126). -/
theorem Display.Ordered.load (h : d.Ordered c false) (on : Bool) (L : Timing) (now : Nat) (shown : Option Screen) :
    (d.load on L now shown).Ordered c false := by
  have base (on : Bool) : (d.base on).Ordered c false := (h.notePending (pending := false) nofun).congr
  have restarting (on : Bool) (hc : c.Idle) : (d.restarting on L now).Ordered c false :=
    enterStarting_ordered { d.base on with current := L } hc now
  have switchedOff (hc : c.Idle) : (d.switchedOff false L shown).Ordered c false :=
    enterOff_ordered { d.base false with current := L } hc shown
  rw [display_load_eq]
  dsimp only
  split
  · next hs => exact restarting true (h.idle (by simp [hs]))
  · exact (base false).congr
  · next hs =>
    split
    · exact base true
    · exact restarting true (h.idle (by simp [hs]))
  · next hs => exact switchedOff (h.idle (by simp [hs]))
  · next hs =>
    split
    · exact base true
    · exact (base true).stop hs true (some L)
  · next hs => exact (base false).stop hs false _
  · next hs =>
    split
    · exact base true
    · exact restarting true (h.idle (by simp [hs]))
  · next hs => exact switchedOff (h.idle (by simp [hs]))
  · next target _ => exact (base target).congr

/-- What a reset leaves of the output (R125). -/
theorem restartedDisplay_ordered (hc : c.Idle) (on : Bool) (timing : Timing) (now : Nat) (shown : Option Screen) :
    (restartedDisplay on timing now shown).Ordered c false := by
  unfold restartedDisplay
  dsimp only
  split
  · exact enterStarting_ordered _ hc now
  · exact enterOff_ordered ⟨.off, on, timing, none, false, false, none, none, none, .nothing, none, shown, 0, 0⟩ hc shown

end

end Sys2Proof.Machine
end

section
/-! What an operation keeps of the output, the error queue and the transmitter (R95, R102, R125, R160, R171, R172). -/

set_option Elab.async false

namespace Sys2Proof.Machine

/-! ### Two relations of a state and the one after it -/

/-- From `s` to `t` the order of the output, the bound of the error queue and the order of the transmitter are kept. -/
structure State.Keeps (s t : State) : Prop where
  output : s.outputSafe → t.outputSafe
  errors : s.sts.errors.length ≤ 16 → t.sts.errors.length ≤ 16
  link : s.link.safe → t.link.safe

/-- The same for an operation outside the control link port: what is owed and what is sent stay as they are. -/
structure State.KeepsOffLine (s t : State) : Prop where
  output : s.outputSafe → t.outputSafe
  errors : s.sts.errors.length ≤ 16 → t.sts.errors.length ≤ 16
  owed : t.link.owed = s.link.owed
  tx : t.link.tx = s.link.tx

section
variable {s t u : State}

theorem linkSafe_congr {l m : LinkPort} (owed : m.owed = l.owed) (tx : m.tx = l.tx) (h : l.safe) : m.safe := by
  unfold LinkPort.safe
  rw [owed, tx]
  exact h

theorem linkSafe_idle {l : LinkPort} (tx : l.tx = .idle) : l.safe := by
  unfold LinkPort.safe
  rw [tx]
  trivial

theorem State.Keeps.refl (s : State) : s.Keeps s := ⟨id, id, id⟩

theorem State.Keeps.trans (h : s.Keeps t) (k : t.Keeps u) : s.Keeps u :=
  ⟨k.output ∘ h.output, k.errors ∘ h.errors, k.link ∘ h.link⟩

theorem State.KeepsOffLine.keeps (h : s.KeepsOffLine t) : s.Keeps t :=
  ⟨h.output, h.errors, linkSafe_congr h.owed h.tx⟩

theorem State.KeepsOffLine.refl (s : State) : s.KeepsOffLine s := ⟨id, id, rfl, rfl⟩

theorem State.KeepsOffLine.trans (h : s.KeepsOffLine t) (k : t.KeepsOffLine u) : s.KeepsOffLine u :=
  ⟨k.output ∘ h.output, k.errors ∘ h.errors, k.owed.trans h.owed, k.tx.trans h.tx⟩

/-- An operation that reaches the output, standby, the composer's context and tile fault, the error queue and the line nowhere. -/
theorem State.KeepsOffLine.rest (disp : t.disp = s.disp := by rfl)
    (context : t.comp.context.isSome = s.comp.context.isSome := by rfl)
    (fault : t.comp.tileFault = s.comp.tileFault := by rfl) (standby : t.sig.standby = s.sig.standby := by rfl)
    (errors : t.sts.errors = s.sts.errors := by rfl) (owed : t.link.owed = s.link.owed := by rfl)
    (tx : t.link.tx = s.link.tx := by rfl) : s.KeepsOffLine t where
  output := by
    rw [outputSafe_iff, outputSafe_iff, disp, standby]
    exact fun h => h.congr context fault
  errors := by rw [errors]; exact id
  owed := owed
  tx := tx

/-- An operation on the display output and the composer alone. -/
theorem State.KeepsOffLine.ofOutput (output : s.outputSafe → t.outputSafe) (errors : t.sts.errors = s.sts.errors := by rfl)
    (owed : t.link.owed = s.link.owed := by rfl) (tx : t.link.tx = s.link.tx := by rfl) : s.KeepsOffLine t :=
  ⟨output, by rw [errors]; exact id, owed, tx⟩

/-- The end of an event (R156, R157). -/
theorem State.KeepsOffLine.settle (h : s.KeepsOffLine t) : s.KeepsOffLine t.settle := h.trans .rest

theorem State.Keeps.settle (h : s.Keeps t) : s.Keeps t.settle := h.trans (State.KeepsOffLine.keeps .rest)

/-- An error handed to the status unit (R160). -/
theorem queueError_keeps (s : State) (code : ErrorCode) (detail : Nat) : s.KeepsOffLine (s.queueError code detail) :=
  ⟨id, pushError_length _, rfl, rfl⟩

/-! ### The shared operations -/

theorem flushCam_keeps (s : State) (i : Fin 4) (c : Cam) : s.KeepsOffLine (s.flushCam i c) :=
  .rest (by simp) (flushCam_isSome s i c) (by rw [flushCam_comp]) (by simp) (by simp) (by simp) (by simp)

/-- A wake (R125, R139). -/
theorem wake_keeps (s : State) : s.KeepsOffLine s.wake := by
  by_cases hs : s.sig.standby = true
  · refine .ofOutput (fun h => ?_) (by rw [wake_sts]) (by simp) (by simp)
    rw [outputSafe_iff] at h ⊢
    rw [State.wake_comp, wake_standby, wake_disp hs]
    have off : s.disp.state = .off := h.standby hs
    split
    · exact enterStarting_ordered _ (h.idle (by simp [off])) _
    · exact ⟨h.settle, h.hold, h.next, h.sends, h.pending, h.context, h.composed, h.fault, nofun⟩
  · rw [wake_awake (Bool.not_eq_true _ ▸ hs)]
    exact .refl s

/-- The hand-off of a signal event (R135). -/
theorem handOn_keeps (s : State) (before : SignalUnit) : s.KeepsOffLine (s.handOn before) := by
  refine .ofOutput (fun h => ?_) (by simp) (by simp) (by simp)
  rw [outputSafe_iff] at h ⊢
  rw [State.handOn_comp, State.handOn_sig, handOn_eq]
  dsimp only
  split
  · exact h.onMoving s.clock
  · split
    · exact h
    · simpa using h

theorem signalEvent_keeps (s : State) {u : SignalUnit} (hu : u.standby = s.sig.standby) :
    s.KeepsOffLine (s.signalEvent u) := by
  have taken : s.KeepsOffLine { s with sig := u } := .rest (standby := hu)
  unfold State.signalEvent
  dsimp only
  split
  · exact (taken.trans (wake_keeps _)).trans (handOn_keeps _ _)
  · exact taken.trans (handOn_keeps _ _)

/-- A signal event at a timer's instant. -/
theorem signalAt_keeps (s : State) (d : Timer) {u : SignalUnit} (hu : u.standby = s.sig.standby) :
    s.KeepsOffLine ((s.atInstant d).signalEvent u) :=
  State.KeepsOffLine.trans (t := s.atInstant d) .rest (signalEvent_keeps _ hu)

/-! ### Resets (R125, R165, R166) -/

/-- What a reset leaves is in order, whatever was before it, but for the error queue that it starts from. -/
theorem restart_output (s : State) (p : Profile) (fault : Bool) : ((s.restartBlocks p).restartStatus fault).outputSafe := by
  rw [restartStatus_eq, outputSafe_iff]
  exact restartedDisplay_ordered ⟨rfl, rfl⟩ _ _ _ _

theorem restartStatus_errors (s : State) (fault : Bool) (h : s.sts.errors.length ≤ 16) :
    (s.restartStatus fault).sts.errors.length ≤ 16 := by
  cases fault
  · exact h
  · exact pushError_length _ h

theorem powerOn_keeps (s : State) (rate : Fin 4) : s.Keeps (s.powerOn rate) := by
  have reset := powerOn_resetFrom (s := s) rate
  rw [powerOn_eq] at reset ⊢
  exact ⟨fun _ => restart_output _ _ _, fun _ => restartStatus_errors _ _ (Nat.zero_le _), fun _ => linkSafe_idle reset.tx⟩

theorem softReset_keeps (s : State) : s.Keeps s.softReset := by
  have tx := (softReset_rest s).2.1
  rw [softReset_eq] at tx ⊢
  exact ⟨fun _ => restart_output _ _ _, fun h => restartStatus_errors _ _ h, fun _ => linkSafe_idle tx⟩

/-! ### The link port: replies, collisions and the receiver (R169 to R173) -/

theorem afterReply_keeps (s : State) (r : Reply) : s.Keeps (s.afterReply r) := by
  unfold State.afterReply
  split
  · exact softReset_keeps s
  · exact .refl s

/-- An operation of the link port that ends with the transmitter idle. -/
theorem State.Keeps.ofIdle (output : s.outputSafe → t.outputSafe)
    (errors : s.sts.errors.length ≤ 16 → t.sts.errors.length ≤ 16) (tx : t.link.tx = .idle := by rfl) : s.Keeps t :=
  ⟨output, errors, fun _ => linkSafe_idle tx⟩

theorem controllerByte_keeps (s : State) : s.Keeps s.controllerByte := by
  unfold State.controllerByte
  split
  · unfold State.collide
    split
    · refine State.Keeps.trans ?_ (afterReply_keeps _ _)
      exact .ofIdle id (pushError_length _)
    · exact .ofIdle id (pushError_length _)
  · exact .refl s

theorem receiveByte_keeps (s : State) (b : Byte) (f : Bool) : s.Keeps (s.receiveByte b f).1 :=
  (controllerByte_keeps s).trans (State.KeepsOffLine.keeps .rest)

theorem receiveQuiet_keeps {bytes : List Byte} (hr : s.receiveQuiet bytes = some t) : s.Keeps t := by
  induction bytes generalizing s with
  | nil => exact Option.some.inj hr ▸ .refl s
  | cons b rest ih =>
    unfold State.receiveQuiet at hr
    split at hr
    · next u hu => exact State.Keeps.trans (by simpa only [hu] using receiveByte_keeps s b false) (ih hr)
    · cases hr

theorem receiveLast_keeps {bytes : List Byte} {last : Byte} {f : Bool} {e : RxEvent}
    (hr : s.receiveLast bytes last f = some (t, e)) : s.Keeps t := by
  unfold State.receiveLast at hr
  rw [Option.map_eq_some_iff] at hr
  obtain ⟨u, hu, hl⟩ := hr
  exact (receiveQuiet_keeps hu).trans (by simpa only [hl] using receiveByte_keeps u last f)

theorem discardFrame_keeps (s : State) (code : ErrorCode) (detail : Nat) : s.KeepsOffLine (s.discardFrame code detail) :=
  ⟨id, pushError_length _, rfl, rfl⟩

theorem frameArrives_keepsOrder (s : State) : s.Keeps s.frameArrives := by
  have taken : s.Keeps s.controllerByte.frameTaken := (controllerByte_keeps s).trans (State.KeepsOffLine.keeps .rest)
  rw [frameArrives_eq]
  split
  · exact taken.trans (wake_keeps _).settle.keeps
  · exact taken

/-! ### Events and requests -/

theorem event_keeps {occurs : Bool} {effect : State → State} (hx : event s occurs effect = .next t)
    (he : occurs = true → s.Keeps (effect s)) : s.Keeps t := by
  rcases event_cases hx with rfl | ⟨-, ho, rfl⟩
  · exact .refl t
  · exact (he ho).settle

/-- A request is answered in an awake part with nothing owed or sent, and its owner leaves the line alone. -/
theorem request_keeps {type : Byte} {g : Header} {lengthOk : Bool} {owner : State → Answer}
    (hx : request type g lengthOk owner s = .next t)
    (ho : ∀ u : State, u.sig.standby = false → u.KeepsOffLine (owner u).state) : s.Keeps t := by
  have arrived := frameArrives_keepsOrder s
  have idle := (frameArrives_rest s).2
  rcases request_cases hx with rfl | ⟨-, ⟨-, rfl⟩ | ⟨-, rfl⟩⟩
  · exact .refl t
  · have answered := ho _ (frameArrives_standby s)
    exact arrived.trans (.ofIdle answered.output answered.errors (answered.tx.trans idle))
  · exact arrived.trans (.ofIdle id id idle)

end

end Sys2Proof.Machine
end

section
/-! What the owners of the requests keep of the output and the error queue (R95, R102, R116 to R126, R160). -/

set_option Elab.async false

namespace Sys2Proof.Machine

section
variable (s : State)

/-! ### The owners of the cameras' requests (R4 to R8, R19, R57) -/

theorem onCamera_keeps {cam : Nat} {f : Fin 4 → Answer} (hf : ∀ i, s.KeepsOffLine (f i).state) :
    s.KeepsOffLine (onCamera cam s f).state := by
  unfold onCamera
  split
  · exact hf _
  · exact .refl s

theorem answerSetCameraConfig_keeps (cam : Nat) (items : PortItems) :
    s.KeepsOffLine (answerSetCameraConfig cam items s).state := by
  refine onCamera_keeps s fun i => ?_
  dsimp only
  split
  · exact .refl s
  · split <;> exact .rest

theorem answerCameraEnable_keeps (cam : Nat) : s.KeepsOffLine (answerCameraEnable cam s).state := by
  refine onCamera_keeps s fun i => ?_
  split <;> exact .rest

theorem answerCameraDisable_keeps (cam : Nat) : s.KeepsOffLine (answerCameraDisable cam s).state := by
  refine onCamera_keeps s fun i => ?_
  split
  · exact .refl s
  · exact flushCam_keeps s i _

theorem answerCameraRetrain_keeps (cam : Nat) : s.KeepsOffLine (answerCameraRetrain cam s).state := by
  refine onCamera_keeps s fun i => ?_
  split
  · exact .refl s
  · exact .refl s
  · exact flushCam_keeps s i _

theorem answerSetMetering_keeps (cam : Nat) (items : MeterItems) :
    s.KeepsOffLine (answerSetMetering cam items s).state := by
  refine onCamera_keeps s fun i => ?_
  dsimp only
  split <;> exact .rest

/-! ### The owners of the mesh store's requests (R64 to R69) -/

theorem answerMeshBegin_keeps (slot cols rows : Nat) : s.KeepsOffLine (answerMeshBegin slot cols rows s).state := by
  unfold answerMeshBegin
  repeat' split
  all_goals exact .rest

/-- A sequence abort queues an error (R67). -/
theorem abortUpload_keeps (i : Fin 8) : s.KeepsOffLine (s.abortUpload i).state :=
  State.KeepsOffLine.trans (t := { s with mesh := s.mesh.endUpload i }) .rest (queueError_keeps _ _ _)

theorem answerMeshRows_keeps (slot row : Nat) (nodes : List Node) :
    s.KeepsOffLine (answerMeshRows slot row nodes s).state := by
  unfold answerMeshRows
  split
  · exact .refl s
  · split
    · split
      · exact .refl s
      · split
        · exact abortUpload_keeps s _
        · exact .rest
    · exact .refl s

theorem answerMeshEnd_keeps (slot : Nat) : s.KeepsOffLine (answerMeshEnd slot s).state := by
  unfold answerMeshEnd
  split
  · exact .refl s
  · split
    · split
      · exact .refl s
      · split
        · exact abortUpload_keeps s _
        · exact .rest
    · exact .refl s

theorem answerMeshFree_keeps (slot : Nat) : s.KeepsOffLine (answerMeshFree slot s).state := by
  unfold answerMeshFree
  split
  · exact .refl s
  · split <;> exact .rest

/-! ### The owners of the view table's and the selector's requests (R76, R80, R81, R86, R87, R149 to R154) -/

theorem answerDefineView_keeps (view : Nat) (tiles : List TileFields) :
    s.KeepsOffLine (answerDefineView view tiles s).state := by
  unfold answerDefineView
  split <;> exact .rest

theorem answerOverlayClear_keeps (view : Nat) : s.KeepsOffLine (answerOverlayClear view s).state := by
  unfold answerOverlayClear
  repeat' split
  all_goals exact .rest

theorem answerOverlayAppend_keeps (view : Nat) (prims : List PrimFields) :
    s.KeepsOffLine (answerOverlayAppend view prims s).state := by
  unfold answerOverlayAppend
  dsimp only
  repeat' split
  all_goals exact .rest

theorem answerDeleteView_keeps (view : Nat) : s.KeepsOffLine (answerDeleteView view s).state := by
  unfold answerDeleteView
  repeat' split
  all_goals exact .rest

theorem answerReadView_keeps (view : Nat) (part : ViewPart) : s.KeepsOffLine (answerReadView view part s).state := by
  unfold answerReadView
  repeat' split
  all_goals exact .rest

/-- A re-evaluation of the selector, whatever it then holds (R147). -/
theorem reselect_keeps (z : Selector) : s.KeepsOffLine (State.reevaluate { s with sel := z }) :=
  .rest (by simp) (by simp) (by simp) (by simp) (by simp) (by simp) (by simp)

theorem answerSetEntry_keeps (entry : Nat) (fields : EntryFields) :
    s.KeepsOffLine (answerSetEntry entry fields s).state := by
  unfold answerSetEntry
  split
  · split
    · exact .refl s
    · exact reselect_keeps s _
  · exact .refl s

theorem answerClearEntry_keeps (entry : Nat) : s.KeepsOffLine (answerClearEntry entry s).state := by
  unfold answerClearEntry
  split
  · exact .refl s
  · exact reselect_keeps s _

theorem answerSetDefault_keeps (view : Nat) : s.KeepsOffLine (answerSetDefault view s).state := by
  unfold answerSetDefault
  split
  · exact .refl s
  · split
    · exact .refl s
    · exact reselect_keeps s _

theorem answerOverride_keeps (view rank duration : Nat) : s.KeepsOffLine (answerOverride view rank duration s).state := by
  unfold answerOverride
  split
  · exact .refl s
  · split
    · exact .refl s
    · split
      · exact .refl s
      · exact reselect_keeps s _

theorem answerCancelOverride_keeps : s.KeepsOffLine (answerCancelOverride s).state := by
  unfold answerCancelOverride
  split
  · exact reselect_keeps s _
  · exact .refl s

theorem answerReadSelection_keeps (part : SelectionPart) : s.KeepsOffLine (answerReadSelection part s).state := by
  unfold answerReadSelection
  repeat' split
  all_goals exact .refl s

/-! ### The owners of the signal unit's and the status unit's requests (R136, R138, R161) -/

theorem answerSetSignalConfig_keeps (fields : SignalConfigFields) :
    s.KeepsOffLine (answerSetSignalConfig fields s).state := by
  unfold answerSetSignalConfig
  split
  · exact signalEvent_keeps s rfl
  · exact .refl s

/-- Standby entry leaves the output OFF and the composer without a context (R102, R125). -/
theorem answerEnterStandby_keeps : s.KeepsOffLine (answerEnterStandby s).state := by
  unfold answerEnterStandby
  split
  · exact .refl s
  · refine .ofOutput fun _ => (outputSafe_iff _).2 ?_
    exact enterOff_ordered s.disp ⟨rfl, rfl⟩ s.screen

theorem answerReadError_keeps : s.KeepsOffLine (answerReadError s).state := by
  unfold answerReadError
  split
  · exact .refl s
  · next rest he =>
    refine ⟨id, fun h => ?_, rfl, rfl⟩
    rw [he] at h
    exact Nat.le_of_succ_le h

/-! ### The owners of the display output's requests (R117 to R123) -/

theorem acceptOutput_keeps {d : Display}
    (h : s.disp.Ordered s.comp s.sig.standby → d.Ordered s.comp s.sig.standby) :
    s.KeepsOffLine (acceptOutput s d).state :=
  .ofOutput fun safe => (outputSafe_iff _).2 (h ((outputSafe_iff _).1 safe))

theorem answerOutputEnable_keeps (awake : s.sig.standby = false) : s.KeepsOffLine (answerOutputEnable s).state := by
  refine acceptOutput_keeps s fun h => ?_
  rw [awake] at h ⊢
  split
  · next off => exact enterStarting_ordered _ (h.idle (by simp [show s.disp.state = .off from off])) _
  · exact h.congr
  · exact h.congr

theorem answerOutputDisable_keeps : s.KeepsOffLine (answerOutputDisable s).state := by
  refine acceptOutput_keeps s fun h => ?_
  have disabled : Display.Ordered { s.disp with enable := false } s.comp s.sig.standby := h.congr
  dsimp only
  split
  · next running => exact disabled.stop running false _
  · exact disabled.congr
  · next starting => exact enterOff_ordered _ (h.idle (by simp [starting])) _
  · next hold => exact enterOff_ordered _ (h.idle (by simp [hold])) _
  · exact disabled

theorem answerOutputHold_keeps : s.KeepsOffLine (answerOutputHold s).state := by
  unfold answerOutputHold
  split
  · exact .refl s
  · next running =>
    split
    · exact .refl s
    · exact acceptOutput_keeps s fun h => h.notePending fun _ => not_not.1 running

theorem answerOutputResume_keeps : s.KeepsOffLine (answerOutputResume s).state := by
  unfold answerOutputResume
  split
  · next hold => exact acceptOutput_keeps s fun h => h.leaveHold hold _
  · exact acceptOutput_keeps s fun h => h.notePending nofun
  · exact .refl s

theorem answerSetOutputTiming_keeps (timing : Nat) : s.KeepsOffLine (answerSetOutputTiming timing s).state := by
  unfold answerSetOutputTiming
  split
  · exact .refl s
  · split
    · exact acceptOutput_keeps s fun h => h.congr
    · exact .refl s

/-! ### The owners of the profile store's requests (R162 to R164) -/

theorem answerSaveProfile_keeps (slot : Nat) : s.KeepsOffLine (answerSaveProfile slot s).state := by
  unfold answerSaveProfile
  repeat' split
  all_goals exact .rest

/-- The composer holds a context, and reports a tile fault, after the cameras' part of a load as before it (R32, R71). -/
theorem camerasLoaded_composer (p : Profile) : (s.camerasLoaded p).comp.context.isSome = s.comp.context.isSome ∧
    (s.camerasLoaded p).comp.tileFault = s.comp.tileFault := by
  cases hc : s.comp.context with
  | none => rw [(camerasLoaded_idle s p hc).1, hc]; exact ⟨rfl, rfl⟩
  | some ctx =>
    obtain ⟨-, _, _, _, -, comp, -⟩ := camerasLoaded_context s p hc
    rw [comp]
    exact ⟨rfl, rfl⟩

/-- An accepted load acts on the output as R126 says, and then hands on the moving signal (R135, R164). -/
theorem loadProfile_keeps (p : Profile) (awake : s.sig.standby = false) (hm : s.sig.movingValue = false) :
    s.KeepsOffLine (s.loadProfile p) := by
  obtain ⟨context, fault⟩ := camerasLoaded_composer s p
  have whole := loadProfile_eq s p hm
  refine .ofOutput (fun safe => (outputSafe_iff _).2 ?_) (by rw [whole]) (by rw [whole]) (by rw [whole])
  have h := (outputSafe_iff _).1 safe
  have standby : (s.sigLoaded p).standby = s.sig.standby := rfl
  rw [whole]
  dsimp only
  rw [standby, awake] at *
  have loaded : (s.dispLoaded p).Ordered (s.camerasLoaded p).comp false := (h.congr context fault).load _ _ _ _
  split
  · exact loaded.onMoving s.clock
  · exact loaded

theorem answerLoadProfile_keeps (slot : Nat) (awake : s.sig.standby = false) :
    s.KeepsOffLine (answerLoadProfile slot s).state := by
  unfold answerLoadProfile
  split
  · exact .refl s
  · split
    · exact .refl s
    · split
      · split
        · exact ⟨id, pushError_length _, rfl, rfl⟩
        · split
          · exact .refl s
          · next hm => exact loadProfile_keeps s _ awake (Bool.not_eq_true _ ▸ hm)
      · exact .refl s

end

end Sys2Proof.Machine
end

section
/-! The output, the status unit and the control link in order: every command and every step keeps them. -/

set_option Elab.async false

namespace Sys2Proof.Machine

section
variable {s t : State}

/-! ### The events of the cameras, the signal unit, the mesh store and the profile store -/

theorem execCarrierPresent_keeps {cam : Fin 4} (hx : execCarrierPresent cam s = .next t) : s.Keeps t := by
  unfold execCarrierPresent at hx
  split at hx
  · refine event_keeps hx fun _ => State.KeepsOffLine.keeps ?_
    dsimp only
    split <;> exact .rest
  · exact Host.Outcome.next.inj hx ▸ State.KeepsOffLine.keeps .rest

theorem execCarrierLost_keeps {cam : Fin 4} (hx : execCarrierLost cam s = .next t) : s.Keeps t := by
  have noted : s.KeepsOffLine (s.setCarrier cam false) := .rest
  unfold execCarrierLost at hx
  split at hx
  · refine event_keeps hx fun _ => State.KeepsOffLine.keeps ?_
    dsimp only
    split
    · exact noted.trans (flushCam_keeps _ _ _)
    · exact noted.trans (flushCam_keeps _ _ _)
    · exact noted.trans (flushCam_keeps _ _ _)
    · exact noted
  · exact Host.Outcome.next.inj hx ▸ noted.keeps

theorem execFrameStart_keeps {cam : Fin 4} {number : Byte} (hx : execFrameStart cam number s = .next t) : s.Keeps t := by
  unfold execFrameStart at hx
  split at hx
  · split at hx
    · exact Host.Outcome.next.inj hx ▸ State.KeepsOffLine.keeps .rest
    · cases hx
  · exact Host.Outcome.next.inj hx ▸ .refl s

theorem judgeFrame_keeps (s : State) (i : Fin 4) (c : Cam) : s.KeepsOffLine (s.judgeFrame i c) := by
  unfold State.judgeFrame
  split
  · dsimp only
    split
    · exact .rest
    · split
      · exact flushCam_keeps s i _
      · exact .rest
  · exact .rest

theorem execRawChange_keeps {wire : Fin 6} {level : Bool} (hx : execRawChange wire level s = .next t) : s.Keeps t := by
  unfold execRawChange at hx
  split at hx
  · refine event_keeps hx fun _ => (signalEvent_keeps s ?_).keeps
    rfl
  · exact Host.Outcome.next.inj hx ▸ State.KeepsOffLine.keeps .rest

theorem execSignalUpdate_keeps {g : Header} {mask values : Byte × Byte} {speed : Byte}
    (hx : execSignalUpdate g mask values speed s = .next t) : s.Keeps t := by
  unfold execSignalUpdate at hx
  split at hx
  · dsimp only at hx
    split at hx
    · refine Host.Outcome.next.inj hx ▸ ((frameArrives_keepsOrder s).trans (signalEvent_keeps _ ?_).keeps).settle
      exact update_standby _ _ _ _ _
    · exact Host.Outcome.next.inj hx ▸ (frameArrives_keepsOrder s).settle
  · exact Host.Outcome.next.inj hx ▸ .refl s

theorem execMeshInactivityExpiry_keeps (hx : execMeshInactivityExpiry s = .next t) : s.Keeps t := by
  refine event_keeps hx fun _ => ?_
  split
  · exact ⟨id, pushError_length _, id⟩
  · exact .refl s

theorem execMeshRows_keeps {g : Header} {slot row : Byte} {nodes : List Byte}
    (hx : execMeshRows g slot row nodes s = .next t) : s.Keeps t := by
  unfold execMeshRows at hx
  split at hx
  · exact request_keeps hx fun u _ => answerMeshRows_keeps u _ _ _
  · exact request_keeps hx fun u _ => .refl u

theorem execProfileSaveCompletion_keeps {verified : Bool} (hx : execProfileSaveCompletion verified s = .next t) :
    s.Keeps t := by
  refine event_keeps hx fun _ => ?_
  split
  · cases verified
    · exact ⟨id, pushError_length _, id⟩
    · exact State.KeepsOffLine.keeps .rest
  · exact .refl s

theorem execPowerLoss_keeps (hx : execPowerLoss s = .next t) : s.Keeps t := by
  unfold execPowerLoss at hx
  split at hx
  · rw [cutSave_eq] at hx
    exact Host.Outcome.next.inj hx ▸ State.KeepsOffLine.keeps .rest
  · exact Host.Outcome.next.inj hx ▸ .refl s

/-! ### The events of the display output (R116, R118, R122) -/

/-- A frame start, state by state. -/
theorem startFrame_keeps (ht : s.startFrame = some t) : s.KeepsOffLine t := by
  have ordered (safe : s.outputSafe) : s.disp.Ordered s.comp s.sig.standby := (outputSafe_iff s).1 safe
  have ended (safe : s.outputSafe) : (s.disp.ended s.comp.context).Ordered s.comp s.sig.standby := by
    rw [ended_eq]
    exact (ordered safe).congr
  have endedState : (s.disp.ended s.comp.context).state = s.disp.state := by rw [ended_eq]
  cases state : s.disp.state with
  | off =>
    simp only [State.startFrame, state] at ht
    exact Option.some.inj ht ▸ .refl s
  | starting =>
    obtain rfl := Option.some.inj ((startFrame_starting state).symm.trans ht)
    exact .ofOutput fun safe => (outputSafe_iff _).2 ((ordered safe).beginFrame (by simp [state]) nofun nofun)
  | hold =>
    obtain rfl := Option.some.inj ((startFrame_hold state).symm.trans ht)
    refine .ofOutput fun safe => (outputSafe_iff _).2 ?_
    have repeated := (ordered safe).beginFrame (k := .repeatFrame) (by simp [state]) nofun nofun
    exact repeated.congr
  | stopping =>
    cases target : s.disp.stopToStarting with
    | false =>
      obtain rfl := Option.some.inj ((startFrame_stopsOff state target).symm.trans ht)
      exact .ofOutput fun _ => (outputSafe_iff _).2 (enterOff_ordered _ ⟨rfl, rfl⟩ _)
    | true =>
      obtain rfl := Option.some.inj ((startFrame_stopsStarting state target).symm.trans ht)
      refine .ofOutput fun safe => (outputSafe_iff _).2 ?_
      show Display.Ordered _ _ s.sig.standby
      rw [(ordered safe).awake (by simp [state])]
      exact enterStarting_ordered _ ⟨rfl, rfl⟩ _
  | running =>
    have running := endedState.trans state
    cases pending : s.disp.holdPending with
    | true =>
      obtain rfl := Option.some.inj ((startFrame_holds state pending).symm.trans ht)
      refine .ofOutput fun safe => (outputSafe_iff _).2 ?_
      have nextStart : (s.disp.ended s.comp.context).nextStart = s.disp.nextStart := by rw [ended_eq]
      have held := (ended safe).enterHold running (b := s.discardContext.comp) ⟨rfl, rfl⟩ (s.clock + millis holdMs)
      rw [nextStart] at held
      exact held.congr
    | false =>
      cases hv : s.views[s.sel.selected] with
      | none => cases (startFrame_undefined state pending hv).symm.trans ht
      | some v =>
        obtain rfl := Option.some.inj ((startFrame_running state pending hv).symm.trans ht)
        rw [composeView_eq]
        exact .ofOutput fun safe => (outputSafe_iff _).2
          (((ended safe).takeContext running rfl).beginFrame (by simp [running]) nofun fun _ => rfl)

theorem execOutputFrameStart_keeps (hx : execOutputFrameStart s = .next t) : s.Keeps t := by
  unfold execOutputFrameStart at hx
  split at hx
  · split at hx
    · next u hu =>
      have started : s.KeepsOffLine u := State.KeepsOffLine.trans (t := s.atInstant _) .rest (startFrame_keeps hu)
      exact Host.Outcome.next.inj hx ▸ started.settle.keeps
    · cases hx
  · exact Host.Outcome.next.inj hx ▸ .refl s

theorem execSettleTimerExpiry_keeps (hx : execSettleTimerExpiry s = .next t) : s.Keeps t := by
  refine event_keeps hx fun ho => State.KeepsOffLine.keeps (.ofOutput fun safe => (outputSafe_iff _).2 ?_)
  have h := (outputSafe_iff s).1 safe
  have starting : s.disp.state = .starting := by simp at ho; exact ho.1
  exact h.run (by simp [starting]) rfl (Bool.not_eq_true _ ▸ mt h.hold.1 (by simp [starting])) s.disp.staged

theorem execHoldTimerExpiry_keeps (hx : execHoldTimerExpiry s = .next t) : s.Keeps t := by
  refine event_keeps hx fun ho => State.KeepsOffLine.keeps (.ofOutput fun safe => (outputSafe_iff _).2 ?_)
  have hold : s.disp.state = .hold := by simp at ho; exact ho.1
  exact ((outputSafe_iff s).1 safe).leaveHold hold _

/-! ### The control link port (R169 to R173) -/

theorem execLinkFraming_keeps {bytes : List Byte} {last : Byte} {f : Bool}
    (hx : execLinkFraming bytes last f s = .next t) : s.Keeps t := by
  unfold execLinkFraming at hx
  split at hx
  · split at hx
    · next hr => exact Host.Outcome.next.inj hx ▸ ((receiveLast_keeps hr).trans (discardFrame_keeps _ _ _).keeps).settle
    · next hr => exact Host.Outcome.next.inj hx ▸ (receiveLast_keeps hr).settle
    · exact Host.Outcome.next.inj hx ▸ .refl s
  · exact Host.Outcome.next.inj hx ▸ .refl s

theorem execLinkGap_keeps {bytes : List Byte} (hx : execLinkGap bytes s = .next t) : s.Keeps t := by
  unfold execLinkGap at hx
  split at hx
  · split at hx
    · next u hu =>
      have quiet := receiveQuiet_keeps hu
      split at hx
      · refine Host.Outcome.next.inj hx ▸ quiet.trans (State.Keeps.settle ?_)
        exact ⟨id, pushError_length _, id⟩
      · refine Host.Outcome.next.inj hx ▸ ?_
        split
        · exact .refl s
        · exact quiet.settle
    · exact Host.Outcome.next.inj hx ▸ .refl s
  · exact Host.Outcome.next.inj hx ▸ .refl s

theorem execLinkCheck_keeps {bytes : List Byte} (hx : execLinkCheck bytes s = .next t) : s.Keeps t := by
  unfold execLinkCheck at hx
  split at hx
  · split at hx
    · next hr =>
      obtain ⟨last, -, hr⟩ := Option.bind_eq_some_iff.1 hr
      exact Host.Outcome.next.inj hx ▸ ((receiveLast_keeps hr).trans (discardFrame_keeps _ _ _).keeps).settle
    · next hr =>
      obtain ⟨last, -, hr⟩ := Option.bind_eq_some_iff.1 hr
      exact Host.Outcome.next.inj hx ▸ (receiveLast_keeps hr).settle
    · exact Host.Outcome.next.inj hx ▸ .refl s
  · exact Host.Outcome.next.inj hx ▸ .refl s

theorem execUnknownType_keeps {type : Byte} {g : Header} (hx : execUnknownType type g s = .next t) : s.Keeps t := by
  unfold execUnknownType at hx
  split at hx
  · exact Host.Outcome.next.inj hx ▸ (frameArrives_keepsOrder s).trans (.ofIdle id id (frameArrives_rest s).2)
  · exact Host.Outcome.next.inj hx ▸ .refl s

/-- A reply is sent only while one is owed (R171). -/
theorem execReplyStart_keeps (hx : execReplyStart s = .next t) : s.Keeps t := by
  refine event_keeps hx fun ho => ⟨id, id, fun _ => ?_⟩
  simp only [Bool.and_eq_true] at ho
  exact ho.1

theorem execReplyEnd_keeps (hx : execReplyEnd s = .next t) : s.Keeps t := by
  refine event_keeps hx fun _ => ?_
  split
  · refine State.Keeps.trans ?_ (afterReply_keeps _ _)
    exact .ofIdle id id
  · exact .refl s

/-- A notice is sent only while no reply is owed (R172). -/
theorem execNoticeStart_keeps (hx : execNoticeStart s = .next t) : s.Keeps t :=
  event_keeps hx fun ready => ⟨id, id, fun _ => ((noticeReady_iff s.link).1 ready).2.1⟩

end

end Sys2Proof.Machine
end

section
/-! The output, the status unit and the control link in order, concluded: every command and every step keeps them. -/

set_option Elab.async false

namespace Sys2Proof.Machine

/-! ### Every command -/

/-- Every command keeps the order of the output, the bound of the error queue and the order of the transmitter. -/
theorem exec_keepsOrder (c : Instr) {s t : State} (hx : exec c s = .next t) : s.Keeps t := by
  cases c <;> dsimp only [exec] at hx
  case powerOnReset a b => exact Host.Outcome.next.inj hx ▸ powerOn_keeps s _
  case powerLoss => exact execPowerLoss_keeps hx
  case carrierPresent cam => exact execCarrierPresent_keeps hx
  case carrierLost cam => exact execCarrierLost_keeps hx
  case trainingWord cam word => exact event_keeps hx fun _ => State.KeepsOffLine.keeps .rest
  case wordTimerExpiry cam => exact event_keeps hx fun _ => State.KeepsOffLine.keeps .rest
  case frameStart cam number => exact execFrameStart_keeps hx
  case line cam index pixels check => exact event_keeps hx fun _ => State.KeepsOffLine.keeps .rest
  case frameEnd cam lineCount => exact event_keeps hx fun _ => (judgeFrame_keeps s cam _).keeps
  case staleDeadlineExpiry cam => exact event_keeps hx fun _ => State.KeepsOffLine.keeps .rest
  case lostDeadlineExpiry cam => exact event_keeps hx fun _ => State.KeepsOffLine.keeps .rest
  case meshInactivityExpiry => exact execMeshInactivityExpiry_keeps hx
  case outputFrameStart => exact execOutputFrameStart_keeps hx
  case settleTimerExpiry => exact execSettleTimerExpiry_keeps hx
  case holdTimerExpiry => exact execHoldTimerExpiry_keeps hx
  case rawChange wire level => exact execRawChange_keeps hx
  case debounceTimerExpiry wire =>
    refine event_keeps hx fun _ => (signalAt_keeps s _ ?_).keeps
    rfl
  case refreshTimerExpiry signal =>
    refine event_keeps hx fun _ => (signalAt_keeps s _ ?_).keeps
    rfl
  case speedTimerExpiry =>
    refine event_keeps hx fun _ => (signalAt_keeps s _ ?_).keeps
    rfl
  case releaseTimerExpiry entry =>
    exact event_keeps hx fun _ => (State.KeepsOffLine.trans (t := s.atInstant _) .rest (reselect_keeps _ _)).keeps
  case overrideExpiry =>
    exact event_keeps hx fun _ =>
      (State.KeepsOffLine.trans (t := (s.atInstant _).pulse _) .rest (reselect_keeps _ _)).keeps
  case profileSaveCompletion verified => exact execProfileSaveCompletion_keeps hx
  case linkFraming bytes last f => exact execLinkFraming_keeps hx
  case linkGap bytes => exact execLinkGap_keeps hx
  case linkCheck bytes => exact execLinkCheck_keeps hx
  case unknownType type g => exact execUnknownType_keeps hx
  case replyStart => exact execReplyStart_keeps hx
  case replyEnd => exact execReplyEnd_keeps hx
  case noticeStart => exact execNoticeStart_keeps hx
  case noticeEnd => exact event_keeps hx fun _ => .ofIdle id id
  case collision byte f => exact event_keeps hx fun _ => receiveByte_keeps s byte f
  case identify g => exact request_keeps hx fun u _ => .refl u
  case resetPart g => exact request_keeps hx fun u _ => .refl u
  case setCameraConfig g cam items => exact request_keeps hx fun u _ => answerSetCameraConfig_keeps u _ _
  case cameraEnable g cam => exact request_keeps hx fun u _ => answerCameraEnable_keeps u _
  case cameraDisable g cam => exact request_keeps hx fun u _ => answerCameraDisable_keeps u _
  case cameraRetrain g cam => exact request_keeps hx fun u _ => answerCameraRetrain_keeps u _
  case readCameraReport g cam => exact request_keeps hx fun u _ => onCamera_keeps u fun _ => .refl u
  case setMetering g cam items => exact request_keeps hx fun u _ => answerSetMetering_keeps u _ _
  case meshBegin g slot cols rows => exact request_keeps hx fun u _ => answerMeshBegin_keeps u _ _ _
  case meshRows g slot row nodes => exact execMeshRows_keeps hx
  case meshEnd g slot => exact request_keeps hx fun u _ => answerMeshEnd_keeps u _
  case meshFree g slot => exact request_keeps hx fun u _ => answerMeshFree_keeps u _
  case defineView g view count tiles => exact request_keeps hx fun u _ => answerDefineView_keeps u _ _
  case overlayClear g view => exact request_keeps hx fun u _ => answerOverlayClear_keeps u _
  case overlayAppend g view count prims => exact request_keeps hx fun u _ => answerOverlayAppend_keeps u _ _
  case deleteView g view => exact request_keeps hx fun u _ => answerDeleteView_keeps u _
  case readView g view part => exact request_keeps hx fun u _ => answerReadView_keeps u _ _
  case setSelectionEntry g entry fields => exact request_keeps hx fun u _ => answerSetEntry_keeps u _ _
  case clearSelectionEntry g entry => exact request_keeps hx fun u _ => answerClearEntry_keeps u _
  case setDefaultView g view => exact request_keeps hx fun u _ => answerSetDefault_keeps u _
  case overrideView g view rank duration => exact request_keeps hx fun u _ => answerOverride_keeps u _ _ _
  case cancelOverride g => exact request_keeps hx fun u _ => answerCancelOverride_keeps u
  case readSelection g part => exact request_keeps hx fun u _ => answerReadSelection_keeps u _
  case signalUpdate g mask values speed => exact execSignalUpdate_keeps hx
  case setSignalConfig g config => exact request_keeps hx fun u _ => answerSetSignalConfig_keeps u _
  case readSignals g => exact request_keeps hx fun u _ => .refl u
  case enterStandby g => exact request_keeps hx fun u _ => answerEnterStandby_keeps u
  case outputEnable g => exact request_keeps hx fun u awake => answerOutputEnable_keeps u awake
  case outputDisable g => exact request_keeps hx fun u _ => answerOutputDisable_keeps u
  case outputHold g => exact request_keeps hx fun u _ => answerOutputHold_keeps u
  case outputResume g => exact request_keeps hx fun u _ => answerOutputResume_keeps u
  case setOutputTiming g timing => exact request_keeps hx fun u _ => answerSetOutputTiming_keeps u _
  case readConditions g => exact request_keeps hx fun u _ => .refl u
  case readEvents g => exact request_keeps hx fun _ _ => .rest
  case setEventEnable g mask => exact request_keeps hx fun _ _ => .rest
  case readError g => exact request_keeps hx fun u _ => answerReadError_keeps u
  case saveProfile g slot => exact request_keeps hx fun u _ => answerSaveProfile_keeps u _
  case loadProfile g slot => exact request_keeps hx fun u awake => answerLoadProfile_keeps u _ awake

/-! ### The status unit (R156, R157) -/

/-- A command that leaves `t` of `s` changes nothing, leaves the part without power, or ends as every event does. -/
def State.Ends (s t : State) : Prop := t = s ∨ t.powered = false ∨ ∃ u : State, t = u.settle

section
variable {s t : State}

/-- The status unit stays in order, for the end of an event puts it in order (R156, R157). -/
theorem State.Ends.statusSafe (h : s.Ends t) (safe : s.statusSafe) : t.statusSafe := by
  rcases h with rfl | off | ⟨u, rfl⟩
  · exact safe
  · exact fun on => absurd (off.symm.trans on) nofun
  · exact settle_statusSafe u

theorem event_ends {occurs : Bool} {effect : State → State} (hx : event s occurs effect = .next t) : s.Ends t := by
  rcases event_cases hx with rfl | ⟨-, -, rfl⟩
  · exact .inl rfl
  · exact .inr (.inr ⟨_, rfl⟩)

theorem request_ends {type : Byte} {g : Header} {lengthOk : Bool} {owner : State → Answer}
    (hx : request type g lengthOk owner s = .next t) : s.Ends t := by
  rcases request_cases hx with rfl | ⟨-, ⟨-, rfl⟩ | ⟨-, rfl⟩⟩
  · exact .inl rfl
  · exact .inr (.inr ⟨_, rfl⟩)
  · exact .inr (.inr ⟨_, rfl⟩)

theorem ends_settled {u : State} (hx : (.next u.settle : Host.Outcome State Fault Refusal) = .next t) : s.Ends t :=
  .inr (.inr ⟨u, (Host.Outcome.next.inj hx).symm⟩)

theorem ends_same (hx : (.next s : Host.Outcome State Fault Refusal) = .next t) : s.Ends t :=
  .inl (Host.Outcome.next.inj hx).symm

theorem ends_off {u : State} (hx : (.next u : Host.Outcome State Fault Refusal) = .next t) (off : u.powered = false) :
    s.Ends t :=
  .inr (.inl (Host.Outcome.next.inj hx ▸ off))

end

/-- A command changes nothing, takes the power away, or ends with the end of an event (R156, R157). -/
theorem exec_ends (c : Instr) {s t : State} (hx : exec c s = .next t) : s.Ends t := by
  cases c <;> dsimp only [exec] at hx
  case powerOnReset a b => exact ends_settled hx
  case powerLoss =>
    unfold execPowerLoss at hx
    split at hx
    · exact ends_off hx rfl
    · exact ends_same hx
  case carrierPresent cam =>
    unfold execCarrierPresent at hx
    split at hx
    · exact event_ends hx
    · next off => exact ends_off hx (eq_false_of_ne_true off)
  case carrierLost cam =>
    unfold execCarrierLost at hx
    split at hx
    · exact event_ends hx
    · next off => exact ends_off hx (eq_false_of_ne_true off)
  case rawChange wire level =>
    unfold execRawChange at hx
    split at hx
    · exact event_ends hx
    · next off => exact ends_off hx (eq_false_of_ne_true off)
  case frameStart cam number =>
    unfold execFrameStart at hx
    split at hx
    · split at hx
      · exact ends_settled hx
      · cases hx
    · exact ends_same hx
  case outputFrameStart =>
    unfold execOutputFrameStart at hx
    split at hx
    · split at hx
      · exact ends_settled hx
      · cases hx
    · exact ends_same hx
  case linkFraming bytes last f =>
    unfold execLinkFraming at hx
    split at hx
    · split at hx
      · exact ends_settled hx
      · exact ends_settled hx
      · exact ends_same hx
    · exact ends_same hx
  case linkGap bytes =>
    unfold execLinkGap at hx
    split at hx
    · split at hx
      · split at hx
        · exact ends_settled hx
        · split at hx
          · exact ends_same hx
          · exact ends_settled hx
      · exact ends_same hx
    · exact ends_same hx
  case linkCheck bytes =>
    unfold execLinkCheck at hx
    split at hx
    · split at hx
      · exact ends_settled hx
      · exact ends_settled hx
      · exact ends_same hx
    · exact ends_same hx
  case unknownType type g =>
    unfold execUnknownType at hx
    split at hx
    · exact ends_settled hx
    · exact ends_same hx
  case meshRows g slot row nodes =>
    unfold execMeshRows at hx
    split at hx <;> exact request_ends hx
  case signalUpdate g mask values speed =>
    unfold execSignalUpdate at hx
    split at hx
    · dsimp only at hx
      split at hx <;> exact ends_settled hx
    · exact ends_same hx
  case trainingWord | wordTimerExpiry | line | frameEnd | staleDeadlineExpiry | lostDeadlineExpiry | meshInactivityExpiry |
      settleTimerExpiry | holdTimerExpiry | debounceTimerExpiry | refreshTimerExpiry | speedTimerExpiry |
      releaseTimerExpiry | overrideExpiry | profileSaveCompletion | replyStart | replyEnd | noticeStart | noticeEnd |
      collision => exact event_ends hx
  case identify | resetPart | setCameraConfig | cameraEnable | cameraDisable | cameraRetrain | readCameraReport |
      setMetering | meshBegin | meshEnd | meshFree | defineView | overlayClear | overlayAppend | deleteView | readView |
      setSelectionEntry | clearSelectionEntry | setDefaultView | overrideView | cancelOverride | readSelection |
      setSignalConfig | readSignals | enterStandby | outputEnable | outputDisable | outputHold | outputResume |
      setOutputTiming | readConditions | readEvents | setEventEnable | readError | saveProfile | loadProfile =>
    exact request_ends hx

/-! ### Every step -/

/-- Settles O59: each of the four orders is kept by every command, and looks at neither the queue, the clock nor the counter of free
values. -/
theorem stepKeepsOutputAndStatus : Obligations.StepKeepsOutputAndStatus := by
  intro s t hx
  have kept {P : State → Prop} (free : ∀ s n q k, P s → P { s with clock := n, pending := q, freeCount := k })
      (command : ∀ c s t, P s → exec c s = .next t → P t) (h : P s) : P t :=
    step_keeps (fun s q => free s s.clock q s.freeCount) (fun s n => free s n s.pending s.freeCount)
      (fun s k => free s s.clock s.pending k) command h hx
  exact ⟨kept (fun _ _ _ _ h => h) fun c _ _ h hx => (exec_keepsOrder c hx).output h,
    kept (fun _ _ _ _ h => h) fun c _ _ h hx => (exec_ends c hx).statusSafe h,
    kept (P := fun u => u.sts.errors.length ≤ 16) (fun _ _ _ _ h => h) fun c _ _ h hx => (exec_keepsOrder c hx).errors h,
    kept (P := fun u => u.link.safe) (fun _ _ _ _ h => h) fun c _ _ h hx => (exec_keepsOrder c hx).link h⟩

end Sys2Proof.Machine
end

section
/-! Mirror, mapping, sampling and gain of a pixel (R104 to R109): a sample reads no camera pixel outside the frame. -/

set_option Elab.async false

namespace Sys2Proof.Machine

/-! ### The LINEAR mapping (R105) -/

section
variable (origin : Nat) {window size pos : Nat}

/-- The quotient of the LINEAR mapping, below by less than one. -/
theorem linearCoord_floor (hw : 2 ≤ window) (hs : 2 ≤ size) :
    (linearCoord origin window size pos - 16 * origin) * (2 * ((size : Int) - 1)) ≤
        32 * pos * ((window : Int) - 1) + ((size : Int) - 1) ∧
      32 * pos * ((window : Int) - 1) + ((size : Int) - 1) <
        (linearCoord origin window size pos - 16 * origin + 1) * (2 * ((size : Int) - 1)) := by
  obtain ⟨w, rfl⟩ := Nat.exists_eq_add_of_le' (Nat.le_of_succ_le hw)
  obtain ⟨n, rfl⟩ := Nat.exists_eq_add_of_le' (Nat.le_of_succ_le hs)
  have floor := Nat.div_add_mod (32 * pos * w + n) (2 * n)
  have small := Nat.mod_lt (32 * pos * w + n) (show 0 < 2 * n by omega)
  simp only [linearCoord, Nat.add_sub_cancel]
  generalize (32 * pos * w + n) / (2 * n) = q at floor ⊢
  generalize (32 * pos * w + n) % (2 * n) = r at floor small
  zify at floor small
  push_cast
  constructor <;> nlinarith

/-- The first column of the window is reached exactly. -/
theorem linearCoord_first (hs : 2 ≤ size) : linearCoord origin window size 0 = 16 * (origin : Int) := by
  have zero : (32 * 0 * (window - 1) + (size - 1)) / (2 * (size - 1)) = 0 := Nat.div_eq_of_lt (by omega)
  rw [linearCoord, zero]
  simp

/-- The last column of the window is reached exactly. -/
theorem linearCoord_last (hw : 2 ≤ window) (hs : 2 ≤ size) :
    linearCoord origin window size (size - 1) = 16 * ((origin : Int) + window - 1) := by
  have whole : (32 * (size - 1) * (window - 1) + (size - 1)) / (2 * (size - 1)) = 16 * (window - 1) := by
    rw [show 32 * (size - 1) * (window - 1) + (size - 1) = (size - 1) + 2 * (size - 1) * (16 * (window - 1)) by ring,
      Nat.add_mul_div_left _ _ (by omega), Nat.div_eq_of_lt (by omega), Nat.zero_add]
  rw [linearCoord, whole]
  push_cast [Nat.one_le_of_lt hw]
  ring

/-- A later position is never mapped before an earlier one. -/
theorem linearCoord_mono (window size : Nat) {p q : Nat} (h : p ≤ q) :
    linearCoord origin window size p ≤ linearCoord origin window size q := by
  unfold linearCoord
  gcongr

end

/-! ### The MESH mapping (R106) -/

/-- A mesh coordinate is its mix divided by 1024 and rounded to the nearest. -/
theorem meshRound_floor (mix : Int) : 1024 * ((mix + 512) / 1024) ≤ mix + 512 ∧ mix + 512 < 1024 * ((mix + 512) / 1024 + 1) := by
  omega

/-- The mesh square of a position and the place in it. -/
theorem meshCoord_at (nodes : List (List Node)) (i j : Nat) {fx fy : Nat} (hx : fx < 32) (hy : fy < 32) :
    meshCoord nodes (32 * i + fx) (32 * j + fy) =
      (let n00 := nodeAt nodes i j
       let n10 := nodeAt nodes (i + 1) j
       let n01 := nodeAt nodes i (j + 1)
       let n11 := nodeAt nodes (i + 1) (j + 1)
       let mix := fun p q r s : Int =>
         (32 - (fx : Int)) * (32 - fy) * p + fx * (32 - (fy : Int)) * q + (32 - (fx : Int)) * fy * r + (fx : Int) * fy * s
       ((mix n00.u n10.u n01.u n11.u + 512) / 1024, (mix n00.v n10.v n01.v n11.v + 512) / 1024)) := by
  have square (a f : Nat) (hf : f < 32) : (32 * a + f) / 32 = a ∧ (32 * a + f) % 32 = f := by omega
  simp only [meshCoord, square i fx hx, square j fy hy]

theorem meshCoord_node (nodes : List (List Node)) (i j : Nat) :
    meshCoord nodes (32 * i) (32 * j) = ((nodeAt nodes i j).u, (nodeAt nodes i j).v) := by
  have node (u : Int) : (1024 * u + 512) / 1024 = u := by omega
  simpa [node] using meshCoord_at nodes i j (fx := 0) (fy := 0) (by omega) (by omega)

/-! ### Samples (R108) -/

section
variable {au av : Nat}

theorem bilinear_exact (p q r s : Nat) : bilinear 0 0 p q r s = p := by
  simp only [bilinear]
  omega

/-- A sample at sixteenths that are zero does not look beyond its column or row. -/
theorem bilinear_congr {a b c d b' c' d' : Nat} (hb : au ≠ 0 → b = b') (hc : av ≠ 0 → c = c')
    (hd : au ≠ 0 → av ≠ 0 → d = d') : bilinear au av a b c d = bilinear au av a b' c' d' := by
  by_cases hu : au = 0 <;> by_cases hv : av = 0 <;> simp [bilinear, *]

end

/-! ### The gain (R109) -/

theorem applyGain_le (g p : Nat) : applyGain g p ≤ 255 := Nat.min_le_left _ _

theorem applyGain_raises {g p : Nat} (hg : 128 ≤ g) (hp : p ≤ 255) : p ≤ applyGain g p := by
  have : p * 128 ≤ p * g := Nat.mul_le_mul_left p hg
  unfold applyGain
  omega

theorem applyGain_lowers {g : Nat} (hg : g ≤ 128) (p : Nat) : applyGain g p ≤ p := by
  have : p * g ≤ p * 128 := Nat.mul_le_mul_left p hg
  unfold applyGain
  omega

theorem applyGain_one {p : Nat} (hp : p ≤ 255) : applyGain 128 p = p :=
  le_antisymm (applyGain_lowers le_rfl p) (applyGain_raises le_rfl hp)

theorem channel_applyGain (g p : Nat) : (BitVec.ofNat 8 (applyGain g p)).toNat = applyGain g p :=
  Nat.mod_eq_of_lt (Nat.lt_succ_of_le (applyGain_le g p))

/-! ### A pixel (R107 to R109) -/

theorem outsideFrame_iff (u v : Int) (W H : Nat) :
    outsideFrame u v W H = true ↔ u < 0 ∨ v < 0 ∨ 16 * ((W : Int) - 1) < u ∨ 16 * ((H : Int) - 1) < v := by
  simp [outsideFrame, or_assoc]

/-- A coordinate inside the frame lies on a column of it, and between two columns of it unless it is exact (R107). -/
theorem inside_reads {u : Int} {W : Nat} (h0 : 0 ≤ u) (h1 : u ≤ 16 * ((W : Int) - 1)) :
    u.toNat / 16 < W ∧ (u.toNat % 16 ≠ 0 → u.toNat / 16 + 1 < W) := by
  omega

/-- A sample reads at most the four pixels about its position, and beyond its own column and row only at sixteenths of it. -/
theorem samplePixel_congr {rows other : List (List Pixel)} (gain : Nat) {u v W H : Nat}
    (hu : u / 16 < W ∧ (u % 16 ≠ 0 → u / 16 + 1 < W)) (hv : v / 16 < H ∧ (v % 16 ≠ 0 → v / 16 + 1 < H))
    (same : ∀ x y, x < W → y < H → pixelAt rows x y = pixelAt other x y) :
    samplePixel rows gain u v = samplePixel other gain u v := by
  have channel (c : Pixel → Byte) :
      bilinear (u % 16) (v % 16) (c (pixelAt rows (u / 16) (v / 16))).toNat (c (pixelAt rows (u / 16 + 1) (v / 16))).toNat
        (c (pixelAt rows (u / 16) (v / 16 + 1))).toNat (c (pixelAt rows (u / 16 + 1) (v / 16 + 1))).toNat =
      bilinear (u % 16) (v % 16) (c (pixelAt other (u / 16) (v / 16))).toNat (c (pixelAt other (u / 16 + 1) (v / 16))).toNat
        (c (pixelAt other (u / 16) (v / 16 + 1))).toNat (c (pixelAt other (u / 16 + 1) (v / 16 + 1))).toNat := by
    rw [same _ _ hu.1 hv.1]
    exact bilinear_congr (fun au => by rw [same _ _ (hu.2 au) hv.1]) (fun av => by rw [same _ _ hu.1 (hv.2 av)])
      (fun au av => by rw [same _ _ (hu.2 au) (hv.2 av)])
  simp only [samplePixel, channel]

theorem samplePixel_exact (rows : List (List Pixel)) (x y : Nat) :
    samplePixel rows 128 (16 * x) (16 * y) = pixelAt rows x y := by
  have whole (n : Nat) : 16 * n / 16 = n ∧ 16 * n % 16 = 0 := by omega
  have kept (b : Byte) : BitVec.ofNat 8 (applyGain 128 b.toNat) = b := by
    rw [applyGain_one (Nat.le_of_lt_succ b.isLt), BitVec.ofNat_toNat, BitVec.setWidth_eq]
  simp only [samplePixel, whole, bilinear_exact, rgb, kept]

/-- Settles O53, stage by stage. -/
theorem samplesStayInsideTheFrame : Obligations.SamplesStayInsideTheFrame := by
  refine ⟨fun t X Y => ⟨rfl, fun h => by simp [tileLocal, h], fun h => by simp [tileLocal, h]⟩, ?_, ?_, ?_, ?_, ?_,
    samplePixel_exact, fun g p _ hp => ⟨applyGain_le g p, fun hg => applyGain_raises hg hp, fun hg => applyGain_lowers hg p⟩⟩
  · intro origin window size pos hw hs hpos
    obtain ⟨floor, above⟩ := linearCoord_floor origin (pos := pos) hw hs
    have first := linearCoord_first origin (window := window) hs
    have last := linearCoord_last origin hw hs
    refine ⟨floor, above, first, last, ?_, ?_⟩
    · rw [← first]
      exact linearCoord_mono origin window size (Nat.zero_le pos)
    · rw [← last]
      exact linearCoord_mono origin window size (Nat.le_sub_one_of_lt hpos)
  · intro nodes i j fx fy hx hy n00 n10 n01 n11 at_ mix
    have place : at_ = _ := meshCoord_at nodes i j hx hy
    rw [place]
    exact ⟨meshRound_floor _, meshRound_floor _, meshCoord_node nodes i j⟩
  · intro rows gain ui vi au av hu hv channel out
    have at_ (n a : Nat) (ha : a < 16) : (16 * n + a) / 16 = n ∧ (16 * n + a) % 16 = a := by omega
    simp only [out, channel, samplePixel, rgb, at_ ui au hu, at_ vi av hv, channel_applyGain]
    exact ⟨rfl, rfl, rfl⟩
  · intro rows other gain u v W H
    refine ⟨outsideFrame_iff u v W H, fun inside same => ?_⟩
    obtain ⟨hu, hv, hW, hH⟩ : 0 ≤ u ∧ 0 ≤ v ∧ u ≤ 16 * ((W : Int) - 1) ∧ v ≤ 16 * ((H : Int) - 1) := by
      simpa [not_or] using mt (outsideFrame_iff u v W H).2 (by simp [inside])
    exact samplePixel_congr gain (inside_reads hu hW) (inside_reads hv hH) same
  · intro t cam rows X Y u v at_ mapped
    have pixel : cameraPixel t cam rows X Y =
        if outsideFrame u v cam.width cam.height then t.tile.fill else samplePixel rows cam.gain u.toNat v.toNat := by
      rcases mapped with ⟨nodes, decision, coord⟩ | ⟨sx, sy, sw, sh, decision, mapping, hu, hv⟩
      · simp only [cameraPixel, decision, ← coord, at_]
      · simp only [cameraPixel, decision, mapping, hu, hv, at_]
    exact ⟨fun h => by rw [pixel, if_pos h], fun h => by rw [pixel, h]; rfl⟩

end Sys2Proof.Machine
end

section
/-! The requests of the display output, owner by owner (R117, R119, R120, R122, R123). -/

set_option Elab.async false

namespace Sys2Proof.Machine

section
variable {s : State}

/-! ### OUTPUT_ENABLE and OUTPUT_DISABLE (R117, R119) -/

/-- In OFF the output enters STARTING, at a staged timing if there is one (R117). -/
theorem answerOutputEnable_off (h : s.disp.state = .off) : answerOutputEnable s =
    acceptOutput s (Display.enterStarting { s.disp with
      enable := true, current := s.disp.staged.getD s.disp.current, staged := none } s.clock) := by
  simp only [answerOutputEnable, h, Display.takeStaged]

/-- In STOPPING the stop target becomes STARTING (R117). -/
theorem answerOutputEnable_stopping (h : s.disp.state = .stopping) :
    answerOutputEnable s = acceptOutput s { s.disp with enable := true, stopToStarting := true } := by
  simp only [answerOutputEnable, h]

/-- An output that is already on only notes its output enable (R117). -/
theorem answerOutputEnable_on (h : s.disp.state = .starting ∨ s.disp.state = .running ∨ s.disp.state = .hold) :
    answerOutputEnable s = acceptOutput s { s.disp with enable := true } := by
  rcases h with h | h | h <;> simp only [answerOutputEnable, h]

/-- In RUNNING the output stops at the end of the frame in progress, towards OFF (R119). -/
theorem answerOutputDisable_running (h : s.disp.state = .running) : answerOutputDisable s =
    acceptOutput s { s.disp with enable := false, state := .stopping, stopToStarting := false, holdPending := false } := by
  simp only [answerOutputDisable, h, Display.stop]

/-- In STOPPING the stop target becomes OFF (R119). -/
theorem answerOutputDisable_stopping (h : s.disp.state = .stopping) :
    answerOutputDisable s = acceptOutput s { s.disp with enable := false, stopToStarting := false } := by
  simp only [answerOutputDisable, h]

/-- STARTING and HOLD are left for OFF at once, with the picture on the monitor (R116, R119, assumption 36). -/
theorem answerOutputDisable_atOnce (h : s.disp.state = .starting ∨ s.disp.state = .hold) :
    answerOutputDisable s = acceptOutput s (Display.enterOff { s.disp with enable := false } s.screen) := by
  rcases h with h | h <;> simp only [answerOutputDisable, h]

theorem answerOutputDisable_off (h : s.disp.state = .off) :
    answerOutputDisable s = acceptOutput s { s.disp with enable := false } := by
  simp only [answerOutputDisable, h]

/-! ### OUTPUT_HOLD (R120) -/

theorem answerOutputHold_notRunning (h : s.disp.state ≠ .running) : answerOutputHold s = refuse s .wrongState :=
  if_pos h

theorem answerOutputHold_moving (h : s.disp.state = .running) (moving : s.sig.movingValue = true) :
    answerOutputHold s = refuse s .notWhileMoving := by
  rw [answerOutputHold, if_neg (not_not.2 h), if_pos moving]

/-- In RUNNING at standstill a hold becomes pending (R120). -/
theorem answerOutputHold_still (h : s.disp.state = .running) (still : s.sig.movingValue = false) :
    answerOutputHold s = acceptOutput s { s.disp with holdPending := true } := by
  rw [answerOutputHold, if_neg (not_not.2 h), if_neg (Bool.not_eq_true _ ▸ still)]

/-! ### OUTPUT_RESUME (R122) -/

/-- HOLD is left, by `leaveHold_starting` or `leaveHold_running` (R122). -/
theorem answerOutputResume_hold (h : s.disp.state = .hold) :
    answerOutputResume s = acceptOutput s (s.disp.leaveHold s.clock) := by
  simp only [answerOutputResume, h]

/-- In RUNNING a pending hold is cancelled (R122). -/
theorem answerOutputResume_pending (h : s.disp.state = .running) (pending : s.disp.holdPending = true) :
    answerOutputResume s = acceptOutput s { s.disp with holdPending := false } := by
  simp only [answerOutputResume, h, pending]

/-- With neither a hold nor a pending one there is nothing to resume (R122). -/
theorem answerOutputResume_wrong (held : s.disp.state ≠ .hold)
    (pending : ¬(s.disp.state = .running ∧ s.disp.holdPending = true)) :
    answerOutputResume s = refuse s .wrongState := by
  unfold answerOutputResume
  split
  · next hold => exact absurd hold held
  · next running hp => exact absurd ⟨running, hp⟩ pending
  · rfl

/-! ### SET_OUTPUT_TIMING (R115, R123) -/

theorem timingOf_above {n : Nat} (h : 3 < n) : timingOf n = none := by
  match n, h with
  | _ + 4, _ => rfl

theorem timingOf_le {n : Nat} (h : n ≤ 3) :
    timingOf n = some (if n = 0 then .t0 else if n = 1 then .t1 else if n = 2 then .t2 else .t3) := by
  interval_cases n <;> rfl

theorem answerSetOutputTiming_above {n : Nat} (h : 3 < n) : answerSetOutputTiming n s = refuse s .badValue := by
  simp only [answerSetOutputTiming, timingOf_above h]

/-- Outside OFF and HOLD no timing is taken (R123). -/
theorem answerSetOutputTiming_sending {n : Nat} {x : Timing} (hx : timingOf n = some x)
    (h : s.disp.state = .starting ∨ s.disp.state = .running ∨ s.disp.state = .stopping) :
    answerSetOutputTiming n s = refuse s .wrongState := by
  simp only [answerSetOutputTiming, hx]
  exact if_neg (by rcases h with h | h | h <;> simp [h])

/-- In OFF and HOLD the timing is staged (R123). -/
theorem answerSetOutputTiming_staged {n : Nat} {x : Timing} (hx : timingOf n = some x)
    (h : s.disp.state = .off ∨ s.disp.state = .hold) :
    answerSetOutputTiming n s = acceptOutput s { s.disp with staged := some x } := by
  simp only [answerSetOutputTiming, hx]
  exact if_pos h

end

/-- An accepted request of the display output leaves it as its owner does, and the reply carries its items (R124, R170). -/
theorem request_acceptOutput {s : State} {type : Byte} {g : Header} {lengthOk : Bool} {owner : State → Answer} {d : Display}
    (hp : s.powered = true) (hl : lengthOk = true) (ho : owner s.frameArrives = acceptOutput s.frameArrives d) :
    request type g lengthOk owner s = .next (State.answered { s.frameArrives with disp := d } type g .ok
      (.output ⟨d.state, d.current, d.staged, d.holdPending⟩)) :=
  request_accepted hp hl ho

/-- Settles O41, request by request and by the output state. -/
theorem outputRequestsByState : Obligations.OutputRequestsByState := by
  intro s h hp a d taken refused starting off
  refine ⟨fun hlen => ?_, fun hlen n => ?_⟩
  · have length := lengthIs_eq hlen
    have resumed {e : Display} (hold : d.state = .hold) (left : d.leaveHold a.clock = e) :
        exec (.outputResume h) s = taken 0x43#8 e :=
      request_acceptOutput hp length (left ▸ answerOutputResume_hold hold)
    exact ⟨fun hs => request_acceptOutput hp length (answerOutputEnable_off hs),
      fun hs => request_acceptOutput hp length (answerOutputEnable_stopping hs),
      fun hs => request_acceptOutput hp length (answerOutputEnable_on hs),
      fun hs => request_acceptOutput hp length (answerOutputDisable_running hs),
      fun hs => request_acceptOutput hp length (answerOutputDisable_stopping hs),
      fun hs => request_acceptOutput hp length (answerOutputDisable_atOnce hs),
      fun hs => request_acceptOutput hp length (answerOutputDisable_off hs),
      fun hs => request_refused hp length (answerOutputHold_notRunning hs),
      fun hs moving => request_refused hp length (answerOutputHold_moving hs moving),
      fun hs still => request_acceptOutput hp length (answerOutputHold_still hs still),
      fun _ hs staged differs => resumed hs (leaveHold_starting d a.clock staged differs),
      fun hs same => resumed hs (leaveHold_running d a.clock same),
      fun hs pending => request_acceptOutput hp length (answerOutputResume_pending hs pending),
      fun held pending => request_refused hp length (answerOutputResume_wrong held pending)⟩
  · have length := lengthIs_eq hlen
    exact ⟨fun above => request_refused hp length (answerSetOutputTiming_above above),
      fun inRange hs => request_refused hp length (answerSetOutputTiming_sending (timingOf_le inRange) hs),
      fun inRange hs => request_acceptOutput hp length (answerSetOutputTiming_staged (timingOf_le inRange) hs)⟩

end Sys2Proof.Machine
end

section
/-! What each operation of the signal unit leaves of a wire and of a signal record (R127, R129 to R136), and that it leaves the signal
unit in order. -/

set_option Elab.async false

namespace Sys2Proof.Machine

/-! ### One signal after an operation, by its source -/

theorem tabulate_fin {α : Type} {n : Nat} (f : Fin n → α) (i : Fin n) : (tabulate f)[i] = f i := tabulate_get f i.val i.isLt

section
variable {u : SignalUnit} {i : Fin 16}

theorem followWires_wire {n : Fin 6} (h : u.config.signals[i].source = .wire n) :
    u.followWires.signals[i] = { u.signals[i] with value := u.active n } :=
  (tabulate_fin _ i).trans (by simp only [h])

theorem followWires_other (h : ∀ n, u.config.signals[i].source ≠ .wire n) : u.followWires.signals[i] = u.signals[i] :=
  (tabulate_fin _ i).trans (by
    split
    · next n hs => exact absurd hs (h n)
    · rfl)

theorem takeEntries_message (h : u.config.signals[i].source = .message) (mask values : BitVec 16) (now : Nat) :
    (u.takeEntries mask values now).signals[i] = if mask.getLsbD i then
      ⟨values.getLsbD i, .fresh, some (now + millis u.config.signals[i].timeout)⟩ else u.signals[i] :=
  (tabulate_fin _ i).trans (by simp only [h])

theorem takeEntries_other (h : u.config.signals[i].source ≠ .message) (mask values : BitVec 16) (now : Nat) :
    (u.takeEntries mask values now).signals[i] = u.signals[i] :=
  (tabulate_fin _ i).trans (by
    split
    · next hs => exact absurd hs h
    · rfl)

theorem takeSpeed_speed {on off : Nat} (h : u.config.signals[i].source = .speed on off) (v now : Nat) :
    (u.takeSpeed v now).signals[i] = ⟨speedValue on off v u.signals[i].value, .fresh, none⟩ :=
  (tabulate_fin _ i).trans (by simp only [h])

theorem takeSpeed_other (h : ∀ on off, u.config.signals[i].source ≠ .speed on off) (v now : Nat) :
    (u.takeSpeed v now).signals[i] = u.signals[i] :=
  (tabulate_fin _ i).trans (by
    split
    · next on off hs => exact absurd hs (h on off)
    · rfl)

theorem loseSpeed_speed {on off : Nat} (h : u.config.signals[i].source = .speed on off) :
    u.loseSpeed.signals[i] = u.signals[i].fail u.config.signals[i].failRule :=
  (tabulate_fin _ i).trans (by simp only [h])

theorem loseSpeed_other (h : ∀ on off, u.config.signals[i].source ≠ .speed on off) :
    u.loseSpeed.signals[i] = u.signals[i] :=
  (tabulate_fin _ i).trans (by
    split
    · next on off hs => exact absurd hs (h on off)
    · rfl)

theorem expireSignal_signal (n : Fin 16) : (u.expireSignal n).signals[i] =
    if n = i then u.signals[n].fail u.config.signals[n].failRule else u.signals[i] := by
  simp [SignalUnit.expireSignal, Vector.getElem_set, Fin.ext_iff]

end

/-! ### What an operation leaves of the rest of the unit -/

section
variable (u : SignalUnit)

theorem followWires_rest : u.followWires = { u with signals := u.followWires.signals } := rfl

theorem takeEntries_rest (mask values : BitVec 16) (now : Nat) :
    u.takeEntries mask values now = { u with signals := (u.takeEntries mask values now).signals } := rfl

theorem takeSpeed_rest (v now : Nat) : u.takeSpeed v now = { u with
    speed := some v, speedFresh := true, speedTimer := some (now + millis u.config.speedTimeout)
    signals := (u.takeSpeed v now).signals } := rfl

theorem loseSpeed_rest : u.loseSpeed = { u with
    speedFresh := false, speedTimer := none, signals := u.loseSpeed.signals } := rfl

theorem expireSignal_rest (n : Fin 16) : u.expireSignal n = { u with signals := (u.expireSignal n).signals } := rfl

theorem configure_rest (c : SignalConfig) (now : Nat) : u.configure c now = { u with
    config := c, wires := (u.configure c now).wires, signals := (u.configure c now).signals } := rfl

theorem restart_rest (c : SignalConfig) : u.restart c =
    ⟨c, (u.restart c).signals, (u.restart c).wires, none, false, none, false⟩ := rfl

end

/-! ### A new configuration (R130, R136) -/

section
variable (u : SignalUnit) (c : SignalConfig) (now : Nat)

theorem configure_wire (n : Fin 6) : (u.configure c now).wires[n] =
    if u.config.wires[n].debounce = c.wires[n].debounce then u.wires[n]
    else u.wires[n].retime c.wires[n].debounce now :=
  tabulate_fin _ n

/-- The new configuration, the wires and the speed decide what becomes of a signal, and these are the unit's after the event. -/
theorem configure_signal (i : Fin 16) : (u.configure c now).signals[i] =
    if sameSource u.config.signals[i].source c.signals[i].source then
      (u.configure c now).adjust u.config.signals[i] c.signals[i] u.signals[i]
    else (u.configure c now).reinitialise c.signals[i] u.signals[i] :=
  tabulate_fin _ i

variable {u}

theorem reinitialise_wire {items : SignalItems} {n : Fin 6} (h : items.source = .wire n) (r : SignalRecord) :
    u.reinitialise items r = ⟨u.active n, .none, none⟩ := by
  rw [SignalUnit.reinitialise, h]

theorem reinitialise_message {items : SignalItems} (h : items.source = .message) (r : SignalRecord) :
    u.reinitialise items r = r.fail items.failRule := by
  rw [SignalUnit.reinitialise, h]

theorem reinitialise_known {items : SignalItems} {on off v : Nat} (h : items.source = .speed on off)
    (fresh : u.speedFresh = true) (speed : u.speed = some v) (r : SignalRecord) :
    u.reinitialise items r = ⟨speedValue on off v false, .fresh, none⟩ := by
  rw [SignalUnit.reinitialise, h, fresh, speed]

theorem reinitialise_unknown {items : SignalItems} {on off : Nat} (h : items.source = .speed on off)
    (stale : u.speedFresh = false) (r : SignalRecord) : u.reinitialise items r = r.fail items.failRule := by
  rw [SignalUnit.reinitialise, h, stale]

theorem adjust_wire {before items : SignalItems} {n : Fin 6} (h : items.source = .wire n) (r : SignalRecord) :
    u.adjust before items r = { r with value := u.active n } := by
  rw [SignalUnit.adjust, h]

theorem adjust_message {before items : SignalItems} (h : items.source = .message) (r : SignalRecord) :
    u.adjust before items r = if r.freshness = .stale ∧ before.failRule ≠ items.failRule then
      { r with value := failValue items.failRule r.value } else r := by
  rw [SignalUnit.adjust, h]

theorem adjust_known {before items : SignalItems} {on off v : Nat} (h : items.source = .speed on off)
    (fresh : u.speedFresh = true) (speed : u.speed = some v) (r : SignalRecord) :
    u.adjust before items r = if before.source = items.source then r
      else { r with value := speedValue on off v r.value } := by
  rw [SignalUnit.adjust, h, fresh, speed]

theorem adjust_unknown {before items : SignalItems} {on off : Nat} (h : items.source = .speed on off)
    (stale : u.speedFresh = false) (r : SignalRecord) :
    u.adjust before items r = if r.freshness = .stale ∧ before.failRule ≠ items.failRule then
      { r with value := failValue items.failRule r.value } else r := by
  rw [SignalUnit.adjust, h, stale]

/-- What a signal keeps when its source kind and its wire stay: all but its value (R136). -/
theorem adjust_rest (before items : SignalItems) (r : SignalRecord) :
    u.adjust before items r = { r with value := (u.adjust before items r).value } := by
  unfold SignalUnit.adjust
  split
  · rfl
  · split <;> rfl
  · split <;> rfl

theorem sameSource_iff (a b : Source) : sameSource a b = true ↔
    (∃ n, a = .wire n ∧ b = .wire n) ∨ (a = .message ∧ b = .message) ∨
    ∃ x y on off, a = .speed x y ∧ b = .speed on off := by
  cases a with
  | wire n =>
    cases b with
    | wire m =>
      simp only [sameSource, beq_iff_eq, Source.wire.injEq, reduceCtorEq, false_and, exists_false, or_false, exists_eq_left']
      exact eq_comm
    | message => simp [sameSource]
    | speed on off => simp [sameSource]
  | message => cases b <;> simp [sameSource]
  | speed x y => cases b <;> simp [sameSource]

end

/-! ### Wires in order (R129) -/

/-- A debounce timer runs exactly while the raw level differs from the accepted one. -/
def Debouncer.InOrder (d : Debouncer) : Prop := d.timer.isSome = true ↔ d.raw ≠ d.accepted

/-- The same of all six wires. -/
def wiresInOrder (wires : Vector Debouncer 6) : Prop := ∀ n : Fin 6, (wires[n]).InOrder

section
variable (d : Debouncer)

theorem change_inOrder (items : WireItems) (level : Bool) (now : Nat) : (d.change items level now).InOrder := by
  unfold Debouncer.change Debouncer.InOrder
  split
  · simp
  · split <;> simp_all

theorem expire_inOrder : d.expire.InOrder := by
  simp [Debouncer.expire, Debouncer.InOrder]

variable {d}

theorem Debouncer.InOrder.retime (h : d.InOrder) (debounce now : Nat) : (d.retime debounce now).InOrder := by
  unfold Debouncer.retime
  split
  · exact h
  · next x hx =>
    split
    · exact expire_inOrder d
    · unfold Debouncer.InOrder at h ⊢
      simpa [hx] using h

end

section
variable {w : Vector Debouncer 6}

theorem wiresInOrder.set (h : wiresInOrder w) (n : Fin 6) {d : Debouncer} (hd : d.InOrder) : wiresInOrder (w.set n d) := by
  intro m
  by_cases e : n = m
  · subst e
    simpa using hd
  · have other : (w.set n d)[m] = w[m] := Vector.getElem_set_ne n.isLt m.isLt (fun k => e (Fin.ext k))
    rw [other]
    exact h m

theorem wiresInOrder.configure {u : SignalUnit} (h : wiresInOrder u.wires) (c : SignalConfig) (now : Nat) :
    wiresInOrder (u.configure c now).wires := by
  intro n
  rw [configure_wire]
  split
  · exact h n
  · exact (h n).retime _ _

theorem restart_wiresInOrder (u : SignalUnit) (c : SignalConfig) : wiresInOrder (u.restart c).wires := by
  intro n
  have wire : (u.restart c).wires[n] = u.wires[n].expire := mapTable_get Debouncer.expire u.wires n.val n.isLt
  rw [wire]
  exact expire_inOrder _

end

/-! ### Records in order (R127, R130, R132) -/

/-- A record fits its source, by the wires' activity and the freshness of the speed. -/
def SignalRecord.Fits (r : SignalRecord) (source : Source) (active : Fin 6 → Bool) (fresh : Bool) : Prop :=
  match source with
  | .wire n => r = ⟨active n, .none, none⟩
  | .message => r.freshness = if r.timer.isSome then .fresh else .stale
  | .speed _ _ => r.timer = none ∧ r.freshness = if fresh then .fresh else .stale

section
variable {u v : SignalUnit} {i : Fin 16}

theorem recordSafe_iff (u : SignalUnit) (i : Fin 16) :
    u.recordSafe i ↔ (u.signals[i]).Fits u.config.signals[i].source u.active u.speedFresh := Iff.rfl

theorem active_congr (config : v.config = u.config) (wires : v.wires = u.wires) : v.active = u.active := by
  funext n
  unfold SignalUnit.active
  rw [config, wires]

theorem SignalUnit.safe.fits (h : u.safe) {source : Source} (hs : u.config.signals[i].source = source) :
    (u.signals[i]).Fits source u.active u.speedFresh :=
  hs ▸ h.1 i

/-- Only a MESSAGE signal has a refresh timer (R127). -/
theorem SignalUnit.safe.timed (h : u.safe) (ht : u.signals[i].timer.isSome = true) : u.config.signals[i].source = .message := by
  cases hs : u.config.signals[i].source with
  | wire n =>
    rw [show u.signals[i] = _ from h.fits hs] at ht
    cases ht
  | message => rfl
  | speed on off =>
    rw [(h.fits hs).1] at ht
    cases ht

/-- An operation on the records alone. -/
theorem SignalUnit.safe.ofRecords (h : u.safe) (rest : v = { u with signals := v.signals })
    (fits : ∀ i : Fin 16, (v.signals[i]).Fits u.config.signals[i].source u.active u.speedFresh) : v.safe := by
  rw [rest]
  exact ⟨fits, h.2⟩

/-- An operation on the wires that the WIRE signals follow. -/
theorem SignalUnit.safe.ofWires (h : u.safe) (rest : v = { u with wires := v.wires, signals := v.signals })
    (follow : ∀ (i : Fin 16) (n : Fin 6), u.config.signals[i].source = .wire n →
      v.signals[i] = { u.signals[i] with value := v.active n })
    (others : ∀ i : Fin 16, (∀ n, u.config.signals[i].source ≠ .wire n) → v.signals[i] = u.signals[i]) : v.safe := by
  have config : v.config = u.config := by rw [rest]
  have fresh : v.speedFresh = u.speedFresh := by rw [rest]
  refine ⟨fun i => ?_, by rw [rest]; exact h.2⟩
  rw [recordSafe_iff, config, fresh]
  cases hs : u.config.signals[i].source with
  | wire n =>
    rw [follow i n hs, show u.signals[i] = _ from h.fits hs]
    exact rfl
  | message =>
    rw [others i (fun n e => nomatch hs.symm.trans e)]
    exact h.fits hs
  | speed on off =>
    rw [others i (fun n e => nomatch hs.symm.trans e)]
    exact h.fits hs

/-- An operation on the speed that the SPEED signals follow. -/
theorem SignalUnit.safe.ofSpeed (h : u.safe) (config : v.config = u.config) (wires : v.wires = u.wires)
    (timed : v.speedTimer.isSome = v.speedFresh) (known : v.speedFresh = true → v.speed.isSome = true)
    (follow : ∀ (i : Fin 16) (on off : Nat), u.config.signals[i].source = .speed on off →
      (v.signals[i]).Fits (.speed on off) u.active v.speedFresh)
    (others : ∀ i : Fin 16, (∀ on off, u.config.signals[i].source ≠ .speed on off) → v.signals[i] = u.signals[i]) : v.safe := by
  refine ⟨fun i => ?_, timed, known⟩
  rw [recordSafe_iff, config, active_congr config wires]
  cases hs : u.config.signals[i].source with
  | wire n =>
    rw [others i (fun on off e => nomatch hs.symm.trans e)]
    exact h.fits hs
  | message =>
    rw [others i (fun on off e => nomatch hs.symm.trans e)]
    exact h.fits hs
  | speed on off => exact follow i on off hs

/-- An operation that takes the configuration `c`, which keeps the speed: each signal keeps its source kind and its wire, and all but its
value, or it is reinitialised (R136). -/
theorem SignalUnit.safe.ofConfig (h : u.safe) {c : SignalConfig}
    (rest : v = { u with config := c, wires := v.wires, signals := v.signals })
    (signals : ∀ i : Fin 16, v.signals[i] = if sameSource u.config.signals[i].source c.signals[i].source then
      v.adjust u.config.signals[i] c.signals[i] u.signals[i] else v.reinitialise c.signals[i] u.signals[i]) : v.safe := by
  have config : v.config = c := by rw [rest]
  have fresh : v.speedFresh = u.speedFresh := by rw [rest]
  have speed : v.speed = u.speed := by rw [rest]
  refine ⟨fun i => ?_, by rw [rest]; exact h.2⟩
  rw [recordSafe_iff, config, fresh, signals i]
  split
  · next same =>
    rcases (sameSource_iff _ _).1 same with ⟨n, before, after⟩ | ⟨before, after⟩ | ⟨x, y, on, off, before, after⟩
    · rw [adjust_wire after, after, show u.signals[i] = _ from h.fits before]
      exact rfl
    · rw [adjust_rest, after]
      exact h.fits before
    · rw [adjust_rest, after]
      exact h.fits before
  · cases after : c.signals[i].source with
    | wire n =>
      rw [reinitialise_wire after]
      exact rfl
    | message =>
      rw [reinitialise_message after]
      exact rfl
    | speed on off =>
      cases taken : u.speedFresh with
      | false =>
        rw [reinitialise_unknown after (fresh.trans taken)]
        exact ⟨rfl, rfl⟩
      | true =>
        obtain ⟨k, hk⟩ := Option.isSome_iff_exists.1 (h.2.2 taken)
        rw [reinitialise_known after (fresh.trans taken) (speed.trans hk)]
        exact ⟨rfl, rfl⟩

end

/-! ### Every operation leaves the unit in order -/

section
variable {u : SignalUnit} (h : u.safe)
include h

/-- Whatever has become of the wires, the WIRE signals follow them (R130). -/
theorem SignalUnit.safe.followWires {w : SignalUnit} (rest : w = { u with wires := w.wires }) : w.followWires.safe := by
  have config : w.config = u.config := by rw [rest]
  have signals : w.signals = u.signals := by rw [rest]
  have active : w.followWires.active = w.active := active_congr (by rw [followWires_rest]) (by rw [followWires_rest])
  refine h.ofWires ?_ (fun i n hs => ?_) fun i hs => ?_
  · rw [followWires_rest]
    exact congrArg (fun x : SignalUnit => { x with signals := w.followWires.signals }) rest
  · rw [active, followWires_wire (config ▸ hs), signals]
  · rw [followWires_other (config ▸ hs), signals]

/-- Another raw level of a pin leaves the activity of its wire, and so the unit, as it is. -/
theorem SignalUnit.safe.rawLevel (n : Fin 6) (level : Bool) :
    SignalUnit.safe { u with wires := u.wires.set n { u.wires[n] with raw := level } } := by
  have active : SignalUnit.active { u with wires := u.wires.set n { u.wires[n] with raw := level } } = u.active := by
    funext m
    by_cases e : n = m
    · subst e
      simp [SignalUnit.active, wireActive]
    · simp [SignalUnit.active, wireActive, Vector.getElem_set_ne n.isLt m.isLt fun k => e (Fin.ext k)]
  refine ⟨fun i => ?_, h.2⟩
  rw [recordSafe_iff, active]
  exact h.1 i

theorem SignalUnit.safe.takeEntries (mask values : BitVec 16) (now : Nat) : (u.takeEntries mask values now).safe := by
  refine h.ofRecords (takeEntries_rest _ _ _ _) fun i => ?_
  by_cases hs : u.config.signals[i].source = .message
  · rw [takeEntries_message hs]
    split
    · rw [hs]
      exact rfl
    · exact h.1 i
  · rw [takeEntries_other hs]
    exact h.1 i

theorem SignalUnit.safe.takeSpeed (v now : Nat) : (u.takeSpeed v now).safe := by
  refine h.ofSpeed ?_ ?_ ?_ ?_ (fun i on off hs => ?_) fun i hs => takeSpeed_other hs v now
  · rw [takeSpeed_rest]
  · rw [takeSpeed_rest]
  · rw [takeSpeed_rest]
    rfl
  · rw [takeSpeed_rest]
    exact fun _ => rfl
  · rw [takeSpeed_speed hs, takeSpeed_rest]
    exact ⟨rfl, rfl⟩

theorem SignalUnit.safe.loseSpeed : u.loseSpeed.safe := by
  refine h.ofSpeed ?_ ?_ ?_ ?_ (fun i on off hs => ?_) fun i hs => loseSpeed_other hs
  · rw [loseSpeed_rest]
  · rw [loseSpeed_rest]
  · rw [loseSpeed_rest]
    rfl
  · rw [loseSpeed_rest]
    exact nofun
  · rw [loseSpeed_speed hs, loseSpeed_rest]
    exact ⟨rfl, rfl⟩

/-- A refresh timer that runs is a MESSAGE signal's, which becomes STALE (R134). -/
theorem SignalUnit.safe.expireSignal {n : Fin 16} (ht : u.signals[n].timer.isSome = true) : (u.expireSignal n).safe := by
  refine h.ofRecords (expireSignal_rest _ _) fun i => ?_
  rw [expireSignal_signal]
  split
  · next e =>
    subst e
    rw [h.timed ht]
    exact rfl
  · exact h.1 i

theorem SignalUnit.safe.update (mask values : BitVec 16) (speed : Option Byte) (now : Nat) :
    (u.update mask values speed now).safe := by
  have entries := h.takeEntries mask values now
  unfold SignalUnit.update
  dsimp only
  split
  · exact entries.takeSpeed _ _
  · exact entries

theorem SignalUnit.safe.configure (c : SignalConfig) (now : Nat) : (u.configure c now).safe :=
  h.ofConfig (configure_rest u c now) (configure_signal u c now)

end

theorem update_wires (u : SignalUnit) (mask values : BitVec 16) (speed : Option Byte) (now : Nat) :
    (u.update mask values speed now).wires = u.wires := by
  unfold SignalUnit.update
  dsimp only
  split
  · rw [takeSpeed_rest, takeEntries_rest]
  · rw [takeEntries_rest]

/-- A reset reinitialises every signal, with no speed taken (R132, R140). -/
theorem restart_safe (u : SignalUnit) (c : SignalConfig) : (u.restart c).safe := by
  have rest := restart_rest u c
  have signals := restart_signal u c
  generalize u.restart c = v at rest signals ⊢
  have config : v.config = c := by rw [rest]
  have stale : v.speedFresh = false := by rw [rest]
  refine ⟨fun i => ?_, by rw [rest]; rfl, fun fresh => nomatch stale.symm.trans fresh⟩
  rw [recordSafe_iff, config, stale, signals i]
  cases hs : c.signals[i].source with
  | wire n =>
    rw [reinitialise_wire hs]
    exact rfl
  | message =>
    rw [reinitialise_message hs]
    exact rfl
  | speed on off =>
    rw [reinitialise_unknown (u := { v with signals := u.signals }) hs stale]
    exact ⟨rfl, rfl⟩

end Sys2Proof.Machine
end

section
/-! What an operation keeps of the selection, the signals and the wires (R127, R129, R130, R132, R142, R146, R147). -/

set_option Elab.async false

namespace Sys2Proof.Machine

/-! ### The relation of a state and the one after it -/

/-- From `s` to `t` the order of the selection, of the signals and of the wires is kept. -/
structure State.KeepsSelection (s t : State) : Prop where
  selection : s.selectionSafe → t.selectionSafe
  signals : s.sig.safe → t.sig.safe
  wires : s.wiresSafe → t.wiresSafe

section
variable {s t u : State}

theorem State.KeepsSelection.refl (s : State) : s.KeepsSelection s := ⟨id, id, id⟩

theorem State.KeepsSelection.trans (h : s.KeepsSelection t) (k : t.KeepsSelection u) : s.KeepsSelection u :=
  ⟨k.selection ∘ h.selection, k.signals ∘ h.signals, k.wires ∘ h.wires⟩

theorem selectionSafe_congr (sel : t.sel = s.sel) (values : t.sig.values = s.sig.values) (h : s.selectionSafe) :
    t.selectionSafe := by
  unfold State.selectionSafe at h ⊢
  rwa [sel, values]

/-- An operation that reaches the selector nowhere, and the signal unit in its standby flag at most. -/
theorem State.KeepsSelection.exceptStandby (sel : t.sel = s.sel) (sig : t.sig = { s.sig with standby := t.sig.standby })
    (powered : t.powered = s.powered) : s.KeepsSelection t where
  selection := selectionSafe_congr sel (by rw [sig]; rfl)
  signals := fun h => by
    rw [sig]
    exact h
  wires := by
    have wires : t.sig.wires = s.sig.wires := by rw [sig]
    unfold State.wiresSafe
    rw [wires, powered]
    exact id

/-- An operation outside the selector and the signal unit. -/
theorem State.KeepsSelection.rest (sel : t.sel = s.sel := by rfl) (sig : t.sig = s.sig := by rfl)
    (powered : t.powered = s.powered := by rfl) : s.KeepsSelection t :=
  .exceptStandby sel (by rw [sig]) powered

/-- The end of an event (R156, R157). -/
theorem State.KeepsSelection.settle (h : s.KeepsSelection t) : s.KeepsSelection t.settle := h.trans .rest

/-! ### Re-evaluations (R147) -/

/-- Entries judged by the signals' values, and then a choice, put the selection in order whatever was before. -/
theorem selectionSafe_of_judged {z : Selector} {judgedAt now chosenAt : Nat}
    (h : t.sel = (z.judge t.sig.values judgedAt now).choose chosenAt) : t.selectionSafe := by
  unfold State.selectionSafe
  rw [h, choose_active, choose_choice, choose_selected, choose_viewOf]
  exact ⟨rfl, rfl, fun i e he => selector_judge_held z t.sig.values judgedAt now i e he⟩

/-- A re-evaluation after whatever an event did to the selector. -/
theorem reevaluate_keepsSelection (sig : t.sig = s.sig := by rfl) (powered : t.powered = s.powered := by rfl) :
    s.KeepsSelection t.reevaluate where
  selection := fun _ => reevaluate_selectionSafe t
  signals := fun h => by rwa [State.reevaluate_sig, sig]
  wires := fun h => by
    unfold State.wiresSafe at h ⊢
    rwa [State.reevaluate_sig, State.reevaluate_powered, sig, powered]

/-! ### The events of the signal unit (R135, R139) -/

theorem wake_keepsSelection (s : State) : s.KeepsSelection s.wake := by
  cases hs : s.sig.standby with
  | true => exact .exceptStandby (State.wake_sel s) (by rw [wake_eq hs]) (State.wake_powered s)
  | false =>
    rw [wake_awake hs]
    exact .refl s

/-- The hand-off re-evaluates where a value changed, and reaches the selector nowhere where none did (R135). -/
theorem handOn_selectionSafe (before : SignalUnit) (h : s.sig.values = before.values → s.selectionSafe) :
    (s.handOn before).selectionSafe := by
  have judged : (if s.sig.values = before.values then s else s.reevaluate).selectionSafe := by
    split
    · next same => exact h same
    · exact reevaluate_selectionSafe s
  rw [handOn_eq]
  generalize (if s.sig.values = before.values then s else s.reevaluate) = y at judged ⊢
  dsimp only
  split
  · exact selectionSafe_congr rfl rfl judged
  · exact judged

/-- An event of the signal unit keeps the three orders when what it does to the unit keeps the unit's. -/
theorem signalEvent_keepsSelection (s : State) {u : SignalUnit} (safe : s.sig.safe → u.safe)
    (wires : wiresInOrder s.sig.wires → wiresInOrder u.wires) : s.KeepsSelection (s.signalEvent u) where
  selection := fun h => by
    unfold State.signalEvent
    dsimp only
    refine handOn_selectionSafe s.sig fun same => selectionSafe_congr ?_ same h
    split
    · exact State.wake_sel _
    · rfl
  signals := fun h => by
    rcases signalEvent_sig s u with e | e
    · rw [e]
      exact safe h
    · rw [e]
      exact safe h
  wires := fun h on => by
    have after : (s.signalEvent u).sig.wires = u.wires := by
      rcases signalEvent_sig s u with e | e
      · rw [e]
      · rw [e]
    rw [after]
    exact wires (h ((State.signalEvent_powered s u).symm.trans on))

/-- The same at a timer's instant. -/
theorem signalAt_keepsSelection (s : State) (d : Timer) {u : SignalUnit} (safe : s.sig.safe → u.safe)
    (wires : wiresInOrder s.sig.wires → wiresInOrder u.wires) : s.KeepsSelection ((s.atInstant d).signalEvent u) :=
  State.KeepsSelection.trans (t := s.atInstant d) .rest (signalEvent_keepsSelection _ safe wires)

/-! ### Resets (R129, R140, R155, R165) -/

/-- What a reset leaves is in order, whatever was before it. -/
theorem restart_keepsSelection (s b : State) (p : Profile) (fault : Bool) :
    s.KeepsSelection ((b.restartBlocks p).restartStatus fault) := by
  rw [restartStatus_eq]
  exact ⟨fun _ => selectionSafe_of_judged (restartBlocks_sel b p), fun _ => restart_safe _ _,
    fun _ _ => restart_wiresInOrder _ _⟩

theorem powerOn_keepsSelection (s : State) (rate : Fin 4) : s.KeepsSelection (s.powerOn rate) := by
  rw [powerOn_eq]
  exact restart_keepsSelection s _ _ _

theorem softReset_keepsSelection (s : State) : s.KeepsSelection s.softReset := by
  rw [softReset_eq]
  exact restart_keepsSelection s _ _ _

/-! ### The link port: replies, collisions and the receiver (R169 to R173) -/

theorem afterReply_keepsSelection (s : State) (r : Reply) : s.KeepsSelection (s.afterReply r) := by
  unfold State.afterReply
  split
  · exact softReset_keepsSelection s
  · exact .refl s

theorem controllerByte_keepsSelection (s : State) : s.KeepsSelection s.controllerByte := by
  unfold State.controllerByte
  split
  · unfold State.collide
    split
    · exact State.KeepsSelection.trans .rest (afterReply_keepsSelection _ _)
    · exact .rest
  · exact .refl s

theorem receiveByte_keepsSelection (s : State) (b : Byte) (f : Bool) : s.KeepsSelection (s.receiveByte b f).1 :=
  (controllerByte_keepsSelection s).trans .rest

theorem receiveQuiet_keepsSelection {bytes : List Byte} (hr : s.receiveQuiet bytes = some t) : s.KeepsSelection t := by
  induction bytes generalizing s with
  | nil => exact Option.some.inj hr ▸ .refl s
  | cons b rest ih =>
    unfold State.receiveQuiet at hr
    split at hr
    · next u hu =>
      exact State.KeepsSelection.trans (by simpa only [hu] using receiveByte_keepsSelection s b false) (ih hr)
    · cases hr

theorem receiveLast_keepsSelection {bytes : List Byte} {last : Byte} {f : Bool} {e : RxEvent}
    (hr : s.receiveLast bytes last f = some (t, e)) : s.KeepsSelection t := by
  unfold State.receiveLast at hr
  rw [Option.map_eq_some_iff] at hr
  obtain ⟨u, hu, hl⟩ := hr
  exact (receiveQuiet_keepsSelection hu).trans (by simpa only [hl] using receiveByte_keepsSelection u last f)

theorem frameArrives_keepsSelection (s : State) : s.KeepsSelection s.frameArrives := by
  have taken : s.KeepsSelection s.controllerByte.frameTaken := (controllerByte_keepsSelection s).trans .rest
  rw [frameArrives_eq]
  split
  · exact taken.trans (wake_keepsSelection _).settle
  · exact taken

/-! ### Events and requests -/

theorem event_keepsSelection {occurs : Bool} {effect : State → State} (hx : event s occurs effect = .next t)
    (he : occurs = true → s.KeepsSelection (effect s)) : s.KeepsSelection t := by
  rcases event_cases hx with rfl | ⟨-, ho, rfl⟩
  · exact .refl t
  · exact (he ho).settle

theorem request_keepsSelection {type : Byte} {g : Header} {lengthOk : Bool} {owner : State → Answer}
    (hx : request type g lengthOk owner s = .next t)
    (ho : ∀ u : State, u.KeepsSelection (owner u).state) : s.KeepsSelection t := by
  have arrived := frameArrives_keepsSelection s
  rcases request_cases hx with rfl | ⟨-, ⟨-, rfl⟩ | ⟨-, rfl⟩⟩
  · exact .refl t
  · exact (arrived.trans (ho _)).trans .rest
  · exact arrived.trans .rest

end

end Sys2Proof.Machine
end

section
/-! What the owners of the requests keep of the selection, the signals and the wires. -/

set_option Elab.async false

namespace Sys2Proof.Machine

section
variable (s : State)

/-! ### The owners of the cameras' requests (R4 to R8, R19, R57) -/

theorem flushCam_keepsSelection (i : Fin 4) (c : Cam) : s.KeepsSelection (s.flushCam i c) :=
  .rest (State.flushCam_sel s i c) (State.flushCam_sig s i c) (State.flushCam_powered s i c)

variable {s} in
theorem onCamera_keepsSelection {cam : Nat} {f : Fin 4 → Answer} (hf : ∀ i, s.KeepsSelection (f i).state) :
    s.KeepsSelection (onCamera cam s f).state := by
  unfold onCamera
  split
  · exact hf _
  · exact .refl s

theorem answerSetCameraConfig_keepsSelection (cam : Nat) (items : PortItems) :
    s.KeepsSelection (answerSetCameraConfig cam items s).state := by
  refine onCamera_keepsSelection fun i => ?_
  dsimp only
  repeat' split
  all_goals exact .rest

theorem answerCameraEnable_keepsSelection (cam : Nat) : s.KeepsSelection (answerCameraEnable cam s).state := by
  refine onCamera_keepsSelection fun i => ?_
  split <;> exact .rest

theorem answerCameraDisable_keepsSelection (cam : Nat) : s.KeepsSelection (answerCameraDisable cam s).state := by
  refine onCamera_keepsSelection fun i => ?_
  split
  · exact .refl s
  · exact flushCam_keepsSelection s i _

theorem answerCameraRetrain_keepsSelection (cam : Nat) : s.KeepsSelection (answerCameraRetrain cam s).state := by
  refine onCamera_keepsSelection fun i => ?_
  split
  · exact .refl s
  · exact .refl s
  · exact flushCam_keepsSelection s i _

theorem answerSetMetering_keepsSelection (cam : Nat) (items : MeterItems) :
    s.KeepsSelection (answerSetMetering cam items s).state := by
  refine onCamera_keepsSelection fun i => ?_
  dsimp only
  split <;> exact .rest

/-! ### The owners of the mesh store's requests (R64 to R69) -/

theorem answerMeshBegin_keepsSelection (slot cols rows : Nat) :
    s.KeepsSelection (answerMeshBegin slot cols rows s).state := by
  unfold answerMeshBegin
  repeat' split
  all_goals exact .rest

theorem answerMeshRows_keepsSelection (slot row : Nat) (nodes : List Node) :
    s.KeepsSelection (answerMeshRows slot row nodes s).state := by
  unfold answerMeshRows
  repeat' split
  all_goals exact .rest

theorem answerMeshEnd_keepsSelection (slot : Nat) : s.KeepsSelection (answerMeshEnd slot s).state := by
  unfold answerMeshEnd
  repeat' split
  all_goals exact .rest

theorem answerMeshFree_keepsSelection (slot : Nat) : s.KeepsSelection (answerMeshFree slot s).state := by
  unfold answerMeshFree
  repeat' split
  all_goals exact .rest

/-! ### The owners of the view table's requests (R76, R80, R81, R86, R87) -/

theorem answerDefineView_keepsSelection (view : Nat) (tiles : List TileFields) :
    s.KeepsSelection (answerDefineView view tiles s).state := by
  unfold answerDefineView
  split <;> exact .rest

theorem answerOverlayClear_keepsSelection (view : Nat) : s.KeepsSelection (answerOverlayClear view s).state := by
  unfold answerOverlayClear
  repeat' split
  all_goals exact .rest

theorem answerOverlayAppend_keepsSelection (view : Nat) (prims : List PrimFields) :
    s.KeepsSelection (answerOverlayAppend view prims s).state := by
  unfold answerOverlayAppend
  dsimp only
  repeat' split
  all_goals exact .rest

theorem answerDeleteView_keepsSelection (view : Nat) : s.KeepsSelection (answerDeleteView view s).state := by
  unfold answerDeleteView
  repeat' split
  all_goals exact .rest

theorem answerReadView_keepsSelection (view : Nat) (part : ViewPart) :
    s.KeepsSelection (answerReadView view part s).state := by
  unfold answerReadView
  repeat' split
  all_goals exact .rest

/-! ### The owners of the selector's requests (R149 to R154) -/

theorem answerSetEntry_keepsSelection (entry : Nat) (fields : EntryFields) :
    s.KeepsSelection (answerSetEntry entry fields s).state := by
  unfold answerSetEntry
  split
  · split
    · exact .refl s
    · exact reevaluate_keepsSelection
  · exact .refl s

theorem answerClearEntry_keepsSelection (entry : Nat) : s.KeepsSelection (answerClearEntry entry s).state := by
  unfold answerClearEntry
  split
  · exact .refl s
  · exact reevaluate_keepsSelection

theorem answerSetDefault_keepsSelection (view : Nat) : s.KeepsSelection (answerSetDefault view s).state := by
  unfold answerSetDefault
  split
  · exact .refl s
  · split
    · exact .refl s
    · exact reevaluate_keepsSelection

theorem answerOverride_keepsSelection (view rank duration : Nat) :
    s.KeepsSelection (answerOverride view rank duration s).state := by
  unfold answerOverride
  split
  · exact .refl s
  · split
    · exact .refl s
    · split
      · exact .refl s
      · exact reevaluate_keepsSelection

theorem answerCancelOverride_keepsSelection : s.KeepsSelection (answerCancelOverride s).state := by
  unfold answerCancelOverride
  split
  · exact reevaluate_keepsSelection
  · exact .refl s

theorem answerReadSelection_keepsSelection (part : SelectionPart) :
    s.KeepsSelection (answerReadSelection part s).state := by
  unfold answerReadSelection
  repeat' split
  all_goals exact .rest

/-! ### The owners of the signal unit's requests (R136, R138) -/

theorem answerSetSignalConfig_keepsSelection (fields : SignalConfigFields) :
    s.KeepsSelection (answerSetSignalConfig fields s).state := by
  unfold answerSetSignalConfig
  split
  · exact signalEvent_keepsSelection s (fun h => h.configure _ _) fun h => h.configure _ _
  · exact .refl s

theorem answerEnterStandby_keepsSelection : s.KeepsSelection (answerEnterStandby s).state := by
  unfold answerEnterStandby
  split
  · exact .refl s
  · exact .exceptStandby rfl rfl rfl

/-! ### The owners of the display output's, the status unit's and the profile store's requests (R117 to R123, R161 to R164) -/

theorem answerOutputHold_keepsSelection : s.KeepsSelection (answerOutputHold s).state := by
  unfold answerOutputHold
  repeat' split
  all_goals exact .rest

theorem answerOutputResume_keepsSelection : s.KeepsSelection (answerOutputResume s).state := by
  unfold answerOutputResume
  split <;> exact .rest

theorem answerSetOutputTiming_keepsSelection (timing : Nat) :
    s.KeepsSelection (answerSetOutputTiming timing s).state := by
  unfold answerSetOutputTiming
  repeat' split
  all_goals exact .rest

theorem answerReadError_keepsSelection : s.KeepsSelection (answerReadError s).state := by
  unfold answerReadError
  split <;> exact .rest

theorem answerSaveProfile_keepsSelection (slot : Nat) : s.KeepsSelection (answerSaveProfile slot s).state := by
  unfold answerSaveProfile
  repeat' split
  all_goals exact .rest

/-- A load configures the signal unit and re-evaluates the loaded table (R140, R155). -/
theorem loadProfile_keepsSelection (p : Profile) (still : s.sig.movingValue = false) :
    s.KeepsSelection (s.loadProfile p) := by
  rw [loadProfile_eq s p still]
  exact ⟨fun _ => selectionSafe_of_judged rfl, fun h => h.configure _ _, fun h on => wiresInOrder.configure (h on) _ _⟩

theorem answerLoadProfile_keepsSelection (slot : Nat) : s.KeepsSelection (answerLoadProfile slot s).state := by
  unfold answerLoadProfile
  split
  · exact .refl s
  · split
    · exact .refl s
    · split
      · split
        · exact .rest
        · split
          · exact .refl s
          · next moving => exact loadProfile_keepsSelection s _ (Bool.not_eq_true _ ▸ moving)
      · exact .refl s

end

end Sys2Proof.Machine
end

section
/-! The selection, the signals and the wires in order: every command and every step keeps them. -/

set_option Elab.async false

namespace Sys2Proof.Machine

section
variable {s t : State}

/-! ### The events of the cameras (R7, R17, R26) -/

theorem setCarrier_keepsSelection (s : State) (i : Fin 4) (level : Bool) : s.KeepsSelection (s.setCarrier i level) := .rest

theorem execCarrierPresent_keepsSelection {cam : Fin 4} (hx : execCarrierPresent cam s = .next t) : s.KeepsSelection t := by
  unfold execCarrierPresent at hx
  split at hx
  · refine event_keepsSelection hx fun _ => ?_
    dsimp only
    split <;> exact .rest
  · exact Host.Outcome.next.inj hx ▸ setCarrier_keepsSelection s cam true

theorem execCarrierLost_keepsSelection {cam : Fin 4} (hx : execCarrierLost cam s = .next t) : s.KeepsSelection t := by
  have noted := setCarrier_keepsSelection s cam false
  unfold execCarrierLost at hx
  split at hx
  · refine event_keepsSelection hx fun _ => ?_
    dsimp only
    split
    · exact noted.trans (flushCam_keepsSelection _ _ _)
    · exact noted.trans (flushCam_keepsSelection _ _ _)
    · exact noted.trans (flushCam_keepsSelection _ _ _)
    · exact noted
  · exact Host.Outcome.next.inj hx ▸ noted

theorem execFrameStart_keepsSelection {cam : Fin 4} {number : Byte} (hx : execFrameStart cam number s = .next t) :
    s.KeepsSelection t := by
  unfold execFrameStart at hx
  split at hx
  · split at hx
    · exact Host.Outcome.next.inj hx ▸ .rest
    · cases hx
  · exact Host.Outcome.next.inj hx ▸ .refl s

theorem judgeFrame_keepsSelection (s : State) (i : Fin 4) (c : Cam) : s.KeepsSelection (s.judgeFrame i c) := by
  unfold State.judgeFrame
  split
  · dsimp only
    split
    · exact .rest
    · split
      · exact flushCam_keepsSelection s i _
      · exact .rest
  · exact .rest

/-! ### Output frame starts (R116) -/

theorem endComposedFrame_keepsSelection (s : State) : s.KeepsSelection s.endComposedFrame := by
  unfold State.endComposedFrame
  split <;> exact .rest

theorem startFrame_keepsSelection (ht : s.startFrame = some t) : s.KeepsSelection t := by
  have ended := endComposedFrame_keepsSelection s
  unfold State.startFrame at ht
  split at ht
  · exact Option.some.inj ht ▸ .refl s
  · exact Option.some.inj ht ▸ .rest
  · exact Option.some.inj ht ▸ .rest
  · exact Option.some.inj ht ▸ ended.trans .rest
  · dsimp only at ht
    split at ht
    · exact Option.some.inj ht ▸ ended.trans .rest
    · rw [Option.map_eq_some_iff] at ht
      obtain ⟨v, -, rfl⟩ := ht
      refine ended.trans ?_
      rw [composeView_eq]
      exact .rest

theorem execOutputFrameStart_keepsSelection (hx : execOutputFrameStart s = .next t) : s.KeepsSelection t := by
  unfold execOutputFrameStart at hx
  split at hx
  · split at hx
    · next u hu =>
      have started : s.KeepsSelection u :=
        State.KeepsSelection.trans (t := s.atInstant _) .rest (startFrame_keepsSelection hu)
      exact Host.Outcome.next.inj hx ▸ started.settle
    · cases hx
  · exact Host.Outcome.next.inj hx ▸ .refl s

/-! ### The events of the signal unit (R129 to R134) -/

/-- Without power a pin may take another level, and no debounce timer is looked at (R129). -/
theorem execRawChange_keepsSelection {wire : Fin 6} {level : Bool} (hx : execRawChange wire level s = .next t) :
    s.KeepsSelection t := by
  unfold execRawChange at hx
  split at hx
  · exact event_keepsSelection hx fun _ =>
      signalEvent_keepsSelection s (fun h => h.followWires rfl) fun h => h.set wire (change_inOrder _ _ _ _)
  · next off =>
    exact Host.Outcome.next.inj hx ▸ ⟨id, fun h => h.rawLevel wire level, fun _ on => absurd on off⟩

theorem execSignalUpdate_keepsSelection {g : Header} {mask values : Byte × Byte} {speed : Byte}
    (hx : execSignalUpdate g mask values speed s = .next t) : s.KeepsSelection t := by
  have arrived := frameArrives_keepsSelection s
  unfold execSignalUpdate at hx
  split at hx
  · dsimp only at hx
    split at hx
    · refine Host.Outcome.next.inj hx ▸ (arrived.trans (signalEvent_keepsSelection _ (fun h => h.update _ _ _ _) ?_)).settle
      rw [update_wires]
      exact id
    · exact Host.Outcome.next.inj hx ▸ arrived.settle
  · exact Host.Outcome.next.inj hx ▸ .refl s

/-! ### The other events (R68, R162, R163) -/

theorem execMeshInactivityExpiry_keepsSelection (hx : execMeshInactivityExpiry s = .next t) : s.KeepsSelection t := by
  refine event_keepsSelection hx fun _ => ?_
  split <;> exact .rest

theorem execMeshRows_keepsSelection {g : Header} {slot row : Byte} {nodes : List Byte}
    (hx : execMeshRows g slot row nodes s = .next t) : s.KeepsSelection t := by
  unfold execMeshRows at hx
  split at hx
  · exact request_keepsSelection hx fun u => answerMeshRows_keepsSelection u _ _ _
  · exact request_keepsSelection hx .refl

theorem execProfileSaveCompletion_keepsSelection {verified : Bool} (hx : execProfileSaveCompletion verified s = .next t) :
    s.KeepsSelection t := by
  refine event_keepsSelection hx fun _ => ?_
  split
  · cases verified <;> exact .rest
  · exact .refl s

theorem execPowerLoss_keepsSelection (hx : execPowerLoss s = .next t) : s.KeepsSelection t := by
  unfold execPowerLoss at hx
  split at hx
  · rw [cutSave_eq] at hx
    exact Host.Outcome.next.inj hx ▸ ⟨id, id, fun _ => nofun⟩
  · exact Host.Outcome.next.inj hx ▸ .refl s

/-! ### The control link port (R169 to R173) -/

theorem execLinkFraming_keepsSelection {bytes : List Byte} {last : Byte} {f : Bool}
    (hx : execLinkFraming bytes last f s = .next t) : s.KeepsSelection t := by
  unfold execLinkFraming at hx
  split at hx
  · split at hx
    · next hr => exact Host.Outcome.next.inj hx ▸ (receiveLast_keepsSelection hr).trans .rest
    · next hr => exact Host.Outcome.next.inj hx ▸ (receiveLast_keepsSelection hr).settle
    · exact Host.Outcome.next.inj hx ▸ .refl s
  · exact Host.Outcome.next.inj hx ▸ .refl s

theorem execLinkGap_keepsSelection {bytes : List Byte} (hx : execLinkGap bytes s = .next t) : s.KeepsSelection t := by
  unfold execLinkGap at hx
  split at hx
  · split at hx
    · next u hu =>
      have quiet := receiveQuiet_keepsSelection hu
      split at hx
      · exact Host.Outcome.next.inj hx ▸ quiet.trans .rest
      · refine Host.Outcome.next.inj hx ▸ ?_
        split
        · exact .refl s
        · exact quiet.settle
    · exact Host.Outcome.next.inj hx ▸ .refl s
  · exact Host.Outcome.next.inj hx ▸ .refl s

theorem execLinkCheck_keepsSelection {bytes : List Byte} (hx : execLinkCheck bytes s = .next t) : s.KeepsSelection t := by
  unfold execLinkCheck at hx
  split at hx
  · split at hx
    · next hr =>
      obtain ⟨last, -, hr⟩ := Option.bind_eq_some_iff.1 hr
      exact Host.Outcome.next.inj hx ▸ (receiveLast_keepsSelection hr).trans .rest
    · next hr =>
      obtain ⟨last, -, hr⟩ := Option.bind_eq_some_iff.1 hr
      exact Host.Outcome.next.inj hx ▸ (receiveLast_keepsSelection hr).settle
    · exact Host.Outcome.next.inj hx ▸ .refl s
  · exact Host.Outcome.next.inj hx ▸ .refl s

theorem execUnknownType_keepsSelection {type : Byte} {g : Header} (hx : execUnknownType type g s = .next t) :
    s.KeepsSelection t := by
  unfold execUnknownType at hx
  split at hx
  · exact Host.Outcome.next.inj hx ▸ (frameArrives_keepsSelection s).trans .rest
  · exact Host.Outcome.next.inj hx ▸ .refl s

theorem execReplyEnd_keepsSelection (hx : execReplyEnd s = .next t) : s.KeepsSelection t := by
  refine event_keepsSelection hx fun _ => ?_
  split
  · exact State.KeepsSelection.trans .rest (afterReply_keepsSelection _ _)
  · exact .refl s

end

/-! ### Every command and every step -/

/-- Every command keeps the order of the selection, the signals and the wires. -/
theorem exec_keepsSelection (c : Instr) {s t : State} (hx : exec c s = .next t) : s.KeepsSelection t := by
  cases c <;> dsimp only [exec] at hx
  case powerOnReset a b => exact Host.Outcome.next.inj hx ▸ powerOn_keepsSelection s _
  case powerLoss => exact execPowerLoss_keepsSelection hx
  case carrierPresent cam => exact execCarrierPresent_keepsSelection hx
  case carrierLost cam => exact execCarrierLost_keepsSelection hx
  case frameStart cam number => exact execFrameStart_keepsSelection hx
  case frameEnd cam lineCount => exact event_keepsSelection hx fun _ => judgeFrame_keepsSelection s cam _
  case trainingWord | wordTimerExpiry | line | staleDeadlineExpiry | lostDeadlineExpiry | settleTimerExpiry |
      holdTimerExpiry | replyStart | noticeStart | noticeEnd =>
    exact event_keepsSelection hx fun _ => .rest
  case meshInactivityExpiry => exact execMeshInactivityExpiry_keepsSelection hx
  case outputFrameStart => exact execOutputFrameStart_keepsSelection hx
  case rawChange wire level => exact execRawChange_keepsSelection hx
  case debounceTimerExpiry wire =>
    exact event_keepsSelection hx fun _ =>
      signalAt_keepsSelection s _ (fun h => h.followWires rfl) fun h => h.set wire (expire_inOrder _)
  case refreshTimerExpiry signal =>
    exact event_keepsSelection hx fun runs => signalAt_keepsSelection s _ (fun h => h.expireSignal runs) id
  case speedTimerExpiry =>
    exact event_keepsSelection hx fun _ => signalAt_keepsSelection s _ (fun h => h.loseSpeed) id
  case releaseTimerExpiry entry => exact event_keepsSelection hx fun _ => reevaluate_keepsSelection
  case overrideExpiry => exact event_keepsSelection hx fun _ => reevaluate_keepsSelection
  case profileSaveCompletion verified => exact execProfileSaveCompletion_keepsSelection hx
  case linkFraming bytes last f => exact execLinkFraming_keepsSelection hx
  case linkGap bytes => exact execLinkGap_keepsSelection hx
  case linkCheck bytes => exact execLinkCheck_keepsSelection hx
  case unknownType type g => exact execUnknownType_keepsSelection hx
  case replyEnd => exact execReplyEnd_keepsSelection hx
  case collision byte f => exact event_keepsSelection hx fun _ => receiveByte_keepsSelection s byte f
  case setCameraConfig g cam items =>
    exact request_keepsSelection hx fun u => answerSetCameraConfig_keepsSelection u _ _
  case cameraEnable g cam => exact request_keepsSelection hx fun u => answerCameraEnable_keepsSelection u _
  case cameraDisable g cam => exact request_keepsSelection hx fun u => answerCameraDisable_keepsSelection u _
  case cameraRetrain g cam => exact request_keepsSelection hx fun u => answerCameraRetrain_keepsSelection u _
  case readCameraReport g cam => exact request_keepsSelection hx fun u => onCamera_keepsSelection fun _ => .refl u
  case setMetering g cam items => exact request_keepsSelection hx fun u => answerSetMetering_keepsSelection u _ _
  case meshBegin g slot cols rows => exact request_keepsSelection hx fun u => answerMeshBegin_keepsSelection u _ _ _
  case meshRows g slot row nodes => exact execMeshRows_keepsSelection hx
  case meshEnd g slot => exact request_keepsSelection hx fun u => answerMeshEnd_keepsSelection u _
  case meshFree g slot => exact request_keepsSelection hx fun u => answerMeshFree_keepsSelection u _
  case defineView g view count tiles => exact request_keepsSelection hx fun u => answerDefineView_keepsSelection u _ _
  case overlayClear g view => exact request_keepsSelection hx fun u => answerOverlayClear_keepsSelection u _
  case overlayAppend g view count prims =>
    exact request_keepsSelection hx fun u => answerOverlayAppend_keepsSelection u _ _
  case deleteView g view => exact request_keepsSelection hx fun u => answerDeleteView_keepsSelection u _
  case readView g view part => exact request_keepsSelection hx fun u => answerReadView_keepsSelection u _ _
  case setSelectionEntry g entry fields =>
    exact request_keepsSelection hx fun u => answerSetEntry_keepsSelection u _ _
  case clearSelectionEntry g entry => exact request_keepsSelection hx fun u => answerClearEntry_keepsSelection u _
  case setDefaultView g view => exact request_keepsSelection hx fun u => answerSetDefault_keepsSelection u _
  case overrideView g view rank duration =>
    exact request_keepsSelection hx fun u => answerOverride_keepsSelection u _ _ _
  case cancelOverride g => exact request_keepsSelection hx answerCancelOverride_keepsSelection
  case readSelection g part => exact request_keepsSelection hx fun u => answerReadSelection_keepsSelection u _
  case signalUpdate g mask values speed => exact execSignalUpdate_keepsSelection hx
  case setSignalConfig g config => exact request_keepsSelection hx fun u => answerSetSignalConfig_keepsSelection u _
  case enterStandby g => exact request_keepsSelection hx answerEnterStandby_keepsSelection
  case outputHold g => exact request_keepsSelection hx answerOutputHold_keepsSelection
  case outputResume g => exact request_keepsSelection hx answerOutputResume_keepsSelection
  case setOutputTiming g timing => exact request_keepsSelection hx fun u => answerSetOutputTiming_keepsSelection u _
  case readError g => exact request_keepsSelection hx answerReadError_keepsSelection
  case saveProfile g slot => exact request_keepsSelection hx fun u => answerSaveProfile_keepsSelection u _
  case loadProfile g slot => exact request_keepsSelection hx fun u => answerLoadProfile_keepsSelection u _
  case identify | resetPart | readSignals | outputEnable | outputDisable | readConditions | readEvents | setEventEnable =>
    exact request_keepsSelection hx fun _ => .rest

/-- Settles O58: each of the three orders is kept by every command, and looks at neither the queue, the clock nor the counter of free
values. -/
theorem stepKeepsSelectionAndSignals : Obligations.StepKeepsSelectionAndSignals := by
  intro s t hx
  have kept {P : State → Prop} (free : ∀ s n q k, P s → P { s with clock := n, pending := q, freeCount := k })
      (command : ∀ c s t, P s → exec c s = .next t → P t) (h : P s) : P t :=
    step_keeps (fun s q => free s s.clock q s.freeCount) (fun s n => free s n s.pending s.freeCount)
      (fun s k => free s s.clock s.pending k) command h hx
  exact ⟨kept (fun _ _ _ _ h => h) fun c _ _ h hx => (exec_keepsSelection c hx).selection h,
    kept (P := fun u => u.sig.safe) (fun _ _ _ _ h => h) fun c _ _ h hx => (exec_keepsSelection c hx).signals h,
    kept (fun _ _ _ _ h => h) fun c _ _ h hx => (exec_keepsSelection c hx).wires h⟩

end Sys2Proof.Machine
end

section
/-! READ_SELECTION, READ_SIGNALS and READ_CONDITIONS: what each reply carries (R137, R154, R158). -/

set_option Elab.async false

namespace Sys2Proof.Machine

/-! ### The entries (R154) -/

/-- One entry as READ_SELECTION reports it. -/
def Entry.report (e : Entry) (now : Nat) : EntryReport := ⟨e.config, e.state, e.remaining now⟩

section
variable (s : State) (k : Nat)

theorem entryReports_length : (s.entryReports k).length = min 4 (16 - k) := by
  simp [State.entryReports]

theorem entryReports_get {j : Nat} (hj : k + j < 16) (h4 : j < 4) :
    (s.entryReports k)[j]? = some ((s.sel.entries[k + j]).map fun e => e.report s.clock) := by
  simp [State.entryReports, h4, hj, Entry.report]

end

theorem remaining_running {e : Entry} {start d : Nat} (h : e.state = .releasing start (some d)) (now : Nat) :
    e.remaining now = some ((d - now + 299) / 300) := by
  rw [Entry.remaining, h]
  rfl

/-- A release timer that is held stands at its starting value (R144). -/
theorem remaining_held {e : Entry} {start : Nat} (h : e.state = .releasing start none) (now : Nat) :
    e.remaining now = some start := by
  rw [Entry.remaining, h]
  rfl

/-! ### The override (R154) -/

section
variable {s : State}

theorem selectionSummary_override {o : Override} (h : s.sel.override = some o) :
    s.selectionSummary.override = some ⟨o.view, o.rank, o.duration, msLeft o.timer s.clock⟩ := by
  simp [State.selectionSummary, h]

theorem selectionSummary_noOverride (h : s.sel.override = none) : s.selectionSummary.override = none := by
  simp [State.selectionSummary, h]

end

/-! ### The signal unit (R137) -/

theorem wireActive_eq (items : WireItems) (d : Debouncer) :
    wireActive items d = (d.accepted == (items.polarity == .activeHigh)) := by
  cases h : items.polarity <;> cases hd : d.accepted <;> simp [wireActive, h, hd]

section
variable (u : SignalUnit)

theorem report_signal (i : Fin 16) :
    u.report.signals[i] = ⟨u.config.signals[i], u.signals[i].value, u.signals[i].freshness⟩ :=
  tabulate_fin _ i

theorem report_wire (n : Fin 6) : u.report.wires[n] =
    ⟨u.config.wires[n], u.wires[n].raw, u.wires[n].accepted,
      u.wires[n].accepted == (u.config.wires[n].polarity == .activeHigh)⟩ := by
  rw [← wireActive_eq]
  exact tabulate_fin _ n

theorem anyStale_iff : u.anyStale = true ↔ ∃ i : Fin 16, u.signals[i].freshness = .stale := by
  simp only [SignalUnit.anyStale, List.any_eq_true, beq_iff_eq, Vector.mem_toList_iff]
  constructor
  · rintro ⟨r, hr, stale⟩
    obtain ⟨i, hi, rfl⟩ := Vector.getElem_of_mem hr
    exact ⟨⟨i, hi⟩, stale⟩
  · rintro ⟨i, stale⟩
    exact ⟨_, Vector.getElem_mem i.isLt, stale⟩

end

/-! ### The profile slots (R158) -/

theorem conditionsReport_slot (s : State) (n : Fin 4) : s.conditionsReport.slots[n] = (s.prf.slots[n]).kind :=
  mapTable_get ProfileSlot.kind s.prf.slots n.val n.isLt

/-- Settles O38, report by report. -/
theorem reportsReadOnly : Obligations.ReportsReadOnly := by
  intro s h hp a answers
  refine ⟨fun hlen => ?_, fun hlen => ⟨?_, ?_⟩⟩
  · have length := lengthIs_eq hlen
    refine ⟨request_refused hp length rfl, fun k above => request_refused hp length (if_pos above),
      fun k below => ⟨a.entryReports k, request_accepted hp length (if_neg (Nat.not_le.2 below)), entryReports_length a k,
        fun j hj h4 => ⟨fun empty => ?_, fun e he => ⟨e.remaining a.clock, ?_, fun r d state => remaining_running state _,
          fun r state => remaining_held state _⟩⟩⟩,
      a.selectionSummary, request_accepted hp length rfl, rfl, rfl, rfl, rfl, rfl, rfl, rfl, rfl, rfl, rfl, rfl, rfl,
      selectionSummary_noOverride, fun o ho untimed => ?_, fun o d ho timed => ?_⟩
    · rw [entryReports_get a k hj h4, empty]
      rfl
    · rw [entryReports_get a k hj h4, he]
      rfl
    · rw [selectionSummary_override ho, untimed]
      rfl
    · rw [selectionSummary_override ho, timed]
      rfl
  · have length := lengthIs_eq hlen
    exact ⟨a.sig.report, request_accepted (owner := fun t => accept t (.signals t.sig.report)) hp length rfl,
      report_signal a.sig, report_wire a.sig, rfl, rfl, rfl, rfl, rfl, rfl, anyStale_iff a.sig⟩
  · have length := lengthIs_eq hlen
    refine ⟨a.conditionsReport, request_accepted (owner := fun t => accept t (.conditions t.conditionsReport)) hp length rfl,
      rfl, rfl, rfl, fun n => ?_, fun idle => congrArg (Option.map Save.slot) idle,
      fun v saving => congrArg (Option.map Save.slot) saving⟩
    rw [conditionsReport_slot]
    cases a.prf.slots[n] <;> rfl

end Sys2Proof.Machine
end

section
/-! The debounced wires, and the WIRE signals that follow them (R129, R130). -/

set_option Elab.async false

namespace Sys2Proof.Machine

/-! ### A raw change, by the debounce time (R129) -/

section
variable {d : Debouncer} {items : WireItems} {level : Bool}

theorem change_immediate (h : items.debounce = 0) (now : Nat) : d.change items level now = ⟨level, level, none, now⟩ :=
  if_pos h

theorem change_back (h : items.debounce ≠ 0) (same : level = d.accepted) (now : Nat) :
    d.change items level now = ⟨level, d.accepted, none, now⟩ := by
  rw [Debouncer.change, if_neg h, if_pos same]

theorem change_timed (h : items.debounce ≠ 0) (differs : level ≠ d.accepted) (now : Nat) :
    d.change items level now = ⟨level, d.accepted, some (now + 300 * items.debounce), now⟩ := by
  rw [Debouncer.change, if_neg h, if_neg differs]
  rfl

end

/-! ### The events of a wire -/

section
variable {s : State} {n : Fin 6}

theorem exec_rawChange (hp : s.powered = true) {level : Bool} (h : level ≠ s.sig.wires[n].raw) :
    exec (.rawChange n level) s = .next (State.settle (s.signalEvent
      (s.sig.onWire n fun d => d.change s.sig.config.wires[n] level s.clock))) :=
  (if_pos hp).trans (event_occurs _ hp (by simpa using h.symm))

theorem exec_rawChange_same {level : Bool} (hp : s.powered = true) (h : level = s.sig.wires[n].raw) :
    exec (.rawChange n level) s = .next s := by
  show execRawChange n level s = _
  rw [execRawChange, if_pos hp]
  exact event_idle _ _ (by simp [h])

theorem exec_debounceTimerExpiry (hp : s.powered = true) {x : Nat} (h : s.sig.wires[n].timer = some x) :
    exec (.debounceTimerExpiry n) s = .next (State.settle
      (State.signalEvent { s with clock := max s.clock x } (s.sig.onWire n Debouncer.expire))) := by
  show execDebounceTimerExpiry n s = _
  rw [execDebounceTimerExpiry, event_occurs _ hp (by rw [h]; rfl), h]
  rfl

theorem exec_debounceTimerExpiry_idle (h : s.sig.wires[n].timer = none) : exec (.debounceTimerExpiry n) s = .next s := by
  show execDebounceTimerExpiry n s = _
  exact event_idle _ _ (by rw [h]; rfl)

end

/-- The activity of a wire after one debouncer is replaced (R130). -/
theorem active_setWire (u : SignalUnit) (n m : Fin 6) (w : Debouncer) :
    SignalUnit.active { u with wires := u.wires.set n w } m =
      ((if m = n then w else u.wires[m]).accepted == (u.config.wires[m].polarity == .activeHigh)) := by
  rw [SignalUnit.active, wireActive_eq]
  have wire : (u.wires.set n w)[m] = if m = n then w else u.wires[m] := by
    simp only [Fin.getElem_fin, Vector.getElem_set, Fin.ext_iff, eq_comm]
  rw [wire]

/-- Settles O43, by the level, the debounce time and the accepted level. -/
theorem wiresAreDebounced : Obligations.WiresAreDebounced := by
  intro s n level hp d ms follow run changed
  have taken {w : Debouncer} (differs : level ≠ d.raw) (hw : d.change s.sig.config.wires[n] level s.clock = w) :
      run = changed w := by
    rw [← hw]
    exact exec_rawChange hp differs
  exact ⟨exec_rawChange_same hp,
    fun differs immediate => taken differs (change_immediate immediate _),
    fun differs timed back => taken differs (change_back timed back _),
    fun differs timed away => taken differs (change_timed timed away _),
    fun x runs => exec_debounceTimerExpiry hp runs,
    exec_debounceTimerExpiry_idle,
    fun w i => ⟨fun m hs => by rw [← active_setWire]; exact followWires_wire (u := { s.sig with wires := s.sig.wires.set n w }) hs,
      fun hs => followWires_other (u := { s.sig with wires := s.sig.wires.set n w }) hs⟩⟩

end Sys2Proof.Machine
end

section
/-! SIGNAL_UPDATE, and the refresh timers (R127, R131 to R134, R170, R174). -/

set_option Elab.async false

namespace Sys2Proof.Machine

/-! ### The payload (R174) -/

section
variable {h : Header} (mask values : Byte × Byte) (speed : Byte)

/-- The bytes that a SIGNAL_UPDATE of the length carried holds. -/
def updateBytes (h : Header) (mask values : Byte × Byte) (speed : Byte) : List Byte :=
  [mask.1, mask.2, values.1, values.2] ++ (if h.len = 5 then [speed] else [])

theorem updatePayload_four (hl : h.len = 4) : payloadOf h.len (updateBytes h mask values speed) signalUpdateOf =
    some ⟨wordOf mask.1 mask.2, wordOf values.1 values.2, none⟩ := by
  simp [payloadOf, updateBytes, signalUpdateOf, hl]

theorem updatePayload_five (hl : h.len = 5) : payloadOf h.len (updateBytes h mask values speed) signalUpdateOf =
    some ⟨wordOf mask.1 mask.2, wordOf values.1 values.2, some speed⟩ := by
  simp [payloadOf, updateBytes, signalUpdateOf, hl]

theorem updatePayload_wrong (h4 : h.len ≠ 4) (h5 : h.len ≠ 5) :
    payloadOf h.len (updateBytes h mask values speed) signalUpdateOf = none := by
  simp [payloadOf, updateBytes, h4, h5]

theorem wordOf_bit (hi lo : Byte) (i : Nat) : (wordOf hi lo).getLsbD i = (hi.toNat * 256 + lo.toNat).testBit i := by
  rw [BitVec.getLsbD, wordOf_toNat]

/-- A speed byte of 255 is no speed (R132). -/
theorem speedOf_known {b : Byte} (hb : b.toNat ≠ 255) : speedOf b = some (min b.toNat 250) := if_neg hb

theorem speedOf_unknown {b : Byte} (hb : b.toNat = 255) : speedOf b = none := if_pos hb

end

/-! ### The unit after an update (R131 to R133) -/

section
variable {u : SignalUnit} {i : Fin 16} (mask values : BitVec 16) {speed : Option Byte} {v : Nat} (now : Nat)

theorem update_known (h : speed.bind speedOf = some v) :
    u.update mask values speed now = (u.takeEntries mask values now).takeSpeed v now := by
  rw [SignalUnit.update, h]

theorem update_unknown (h : speed.bind speedOf = none) :
    u.update mask values speed now = u.takeEntries mask values now := by
  rw [SignalUnit.update, h]

/-- An update leaves the configuration, the wires and standby alone. -/
theorem update_rest (speed : Option Byte) : u.update mask values speed now = { u with
    signals := (u.update mask values speed now).signals, speed := (u.update mask values speed now).speed
    speedFresh := (u.update mask values speed now).speedFresh
    speedTimer := (u.update mask values speed now).speedTimer } := by
  cases h : speed.bind speedOf with
  | none =>
    rw [update_unknown mask values now h, takeEntries_rest]
  | some v =>
    rw [update_known mask values now h, takeSpeed_rest, takeEntries_rest]

theorem takeEntries_config : (u.takeEntries mask values now).config = u.config := by
  rw [takeEntries_rest]

/-- A signal that is no SPEED signal is left by an update as its entries leave it. -/
theorem update_notSpeed (h : ∀ on off, u.config.signals[i].source ≠ .speed on off) (speed : Option Byte) :
    (u.update mask values speed now).signals[i] = (u.takeEntries mask values now).signals[i] := by
  cases hk : speed.bind speedOf with
  | none => rw [update_unknown mask values now hk]
  | some v =>
    rw [update_known mask values now hk]
    exact takeSpeed_other (fun on off hs => h on off (takeEntries_config mask values now ▸ hs)) v now

theorem update_message (h : u.config.signals[i].source = .message) (speed : Option Byte) :
    (u.update mask values speed now).signals[i] = if mask.getLsbD i then
      ⟨values.getLsbD i, .fresh, some (now + millis u.config.signals[i].timeout)⟩ else u.signals[i] := by
  rw [update_notSpeed mask values now (fun on off e => nomatch h.symm.trans e), takeEntries_message h]

theorem update_wire {n : Fin 6} (h : u.config.signals[i].source = .wire n) (speed : Option Byte) :
    (u.update mask values speed now).signals[i] = u.signals[i] := by
  rw [update_notSpeed mask values now (fun on off e => nomatch h.symm.trans e),
    takeEntries_other fun e => nomatch h.symm.trans e]

theorem update_speed_known {on off : Nat} (h : u.config.signals[i].source = .speed on off)
    (hk : speed.bind speedOf = some v) : (u.update mask values speed now).signals[i] =
      ⟨speedValue on off v u.signals[i].value, .fresh, none⟩ := by
  rw [update_known mask values now hk, takeSpeed_speed (on := on) (off := off),
    takeEntries_other fun e => nomatch h.symm.trans e]
  rw [takeEntries_config]
  exact h

theorem update_speed_unknown {on off : Nat} (h : u.config.signals[i].source = .speed on off)
    (hk : speed.bind speedOf = none) : (u.update mask values speed now).signals[i] = u.signals[i] := by
  rw [update_unknown mask values now hk, takeEntries_other fun e => nomatch h.symm.trans e]

end

/-! ### The commands -/

section
variable {s : State} {h : Header} {mask values : Byte × Byte} {speed : Byte}

/-- A SIGNAL_UPDATE of a right length is an event of the signal unit, and makes no reply owed (R131, R170). -/
theorem exec_signalUpdate (hp : s.powered = true) {f : SignalUpdateFields}
    (hf : payloadOf h.len (updateBytes h mask values speed) signalUpdateOf = some f) :
    exec (.signalUpdate h mask values speed) s = .next (State.settle (s.frameArrives.signalEvent
      (s.frameArrives.sig.update f.mask f.values f.speed s.frameArrives.clock))) := by
  show execSignalUpdate h mask values speed s = _
  unfold updateBytes at hf
  simp only [execSignalUpdate, if_pos hp, hf]

theorem exec_signalUpdate_wrong (hp : s.powered = true) (h4 : h.len ≠ 4) (h5 : h.len ≠ 5) :
    exec (.signalUpdate h mask values speed) s = .next s.frameArrives.settle := by
  have hf := updatePayload_wrong mask values speed h4 h5
  show execSignalUpdate h mask values speed s = _
  unfold updateBytes at hf
  simp only [execSignalUpdate, if_pos hp, hf]

theorem exec_refreshTimerExpiry (hp : s.powered = true) {i : Fin 16} {d : Nat} (ht : s.sig.signals[i].timer = some d) :
    exec (.refreshTimerExpiry i) s = .next (State.settle
      (State.signalEvent { s with clock := max s.clock d } (s.sig.expireSignal i))) := by
  show execRefreshTimerExpiry i s = _
  rw [execRefreshTimerExpiry, event_occurs _ hp (by rw [ht]; rfl), ht]
  rfl

theorem exec_refreshTimerExpiry_idle {i : Fin 16} (ht : s.sig.signals[i].timer = none) :
    exec (.refreshTimerExpiry i) s = .next s := by
  show execRefreshTimerExpiry i s = _
  exact event_idle _ _ (by rw [ht]; rfl)

theorem exec_speedTimerExpiry (hp : s.powered = true) {d : Nat} (ht : s.sig.speedTimer = some d) :
    exec .speedTimerExpiry s = .next (State.settle
      (State.signalEvent { s with clock := max s.clock d } s.sig.loseSpeed)) := by
  show execSpeedTimerExpiry s = _
  rw [execSpeedTimerExpiry, event_occurs _ hp (by rw [ht]; rfl), ht]
  rfl

theorem exec_speedTimerExpiry_idle (ht : s.sig.speedTimer = none) : exec .speedTimerExpiry s = .next s := by
  show execSpeedTimerExpiry s = _
  exact event_idle _ _ (by rw [ht]; rfl)

end

/-- An update of a legal length carries its speed byte when it has five bytes, and none when it has four (R131). -/
theorem carriedSpeed {h : Header} {speed : Byte} (hl : h.len = 4 ∨ h.len = 5) : ∃ carried : Option Byte,
    (∀ mask values : Byte × Byte, payloadOf h.len (updateBytes h mask values speed) signalUpdateOf =
      some ⟨wordOf mask.1 mask.2, wordOf values.1 values.2, carried⟩) ∧
    (h.len = 5 ∧ speed.toNat ≠ 255 → carried.bind speedOf = some (min speed.toNat 250)) ∧
    (¬(h.len = 5 ∧ speed.toNat ≠ 255) → carried.bind speedOf = none) := by
  rcases hl with h4 | h5
  · exact ⟨none, fun mask values => updatePayload_four mask values speed h4, fun known => by omega, fun _ => rfl⟩
  · exact ⟨some speed, fun mask values => updatePayload_five mask values speed h5, fun known => speedOf_known known.2,
      fun unknown => speedOf_unknown (not_not.1 fun known => unknown ⟨h5, known⟩)⟩

/-- Settles O44: the update by its bytes and sources, and the timers by the records they make STALE. -/
theorem signalsTakenOrStale : Obligations.SignalsTakenOrStale := by
  refine ⟨fun s h mask values speed hp => ?_, fun s hp => ?_⟩
  · intro a run known v bit
    refine ⟨exec_signalUpdate_wrong hp, fun hl => ?_⟩
    obtain ⟨carried, payload, carriesKnown, carriesNone⟩ := carriedSpeed (speed := speed) hl
    have field (w : Byte × Byte) (i : Fin 16) : (wordOf w.1 w.2).getLsbD i = bit w i := wordOf_bit w.1 w.2 i
    refine ⟨_, exec_signalUpdate hp (payload mask values), update_rest _ _ _ _, fun hk => ?_, fun hk => ?_, fun i => ?_⟩
    · rw [update_known _ _ _ (carriesKnown hk), takeSpeed_rest, takeEntries_config]
      exact ⟨rfl, rfl, rfl⟩
    · rw [update_unknown _ _ _ (carriesNone hk), takeEntries_rest]
      exact ⟨rfl, rfl, rfl⟩
    · intro r
      refine ⟨fun hs hb => ?_, fun hs hb => ?_, fun n hs => update_wire _ _ _ hs _,
        fun on off hs hk => update_speed_unknown _ _ _ hs (carriesNone hk),
        fun on off hs hk => update_speed_known _ _ _ hs (carriesKnown hk)⟩
      · rw [update_message _ _ _ hs, field, field, hb]
        rfl
      · rw [update_message _ _ _ hs, field, hb]
        rfl
  · intro failed
    have fails (i : Fin 16) : s.sig.signals[i].fail s.sig.config.signals[i].failRule = failed i := rfl
    refine ⟨fun i d ht => ?_, fun i => exec_refreshTimerExpiry_idle, fun d ht => ?_, exec_speedTimerExpiry_idle⟩
    · rw [exec_refreshTimerExpiry hp ht, SignalUnit.expireSignal, fails]
    · refine ⟨_, exec_speedTimerExpiry hp ht, loseSpeed_rest _, fun i => ⟨fun ⟨on, off, hs⟩ => ?_, loseSpeed_other⟩⟩
      rw [loseSpeed_speed hs, fails]

end Sys2Proof.Machine
end

section
/-! SET_SIGNAL_CONFIG: the tests of its fields, and the unit with the configuration taken (R128, R130, R136). -/

set_option Elab.async false

namespace Sys2Proof.Machine

/-! ### The fields carried (R136) -/

/-- A carried source is a defined one, in its ranges. -/
def SourceFields.Legal (x : SourceFields) : Prop :=
  match x with
  | .wire n => n ≤ 5
  | .message => True
  | .speed on off => on ≤ 250 ∧ off < on
  | .unknown => False

/-- A source of the configuration holds what was carried. -/
def SourceFields.Becomes (x : SourceFields) (y : Source) : Prop :=
  match y with
  | .wire n => x = .wire n.val
  | .message => x = .message
  | .speed on off => x = .speed on off

theorem asSource_eq_some {x : SourceFields} {y : Source} : x.asSource = some y ↔ SourceFields.Legal x ∧ SourceFields.Becomes x y := by
  cases x with
  | wire n =>
    rw [SourceFields.asSource, Option.map_eq_some_iff]
    constructor
    · rintro ⟨k, hk, rfl⟩
      have val := asIndex_eq_some.1 hk
      exact ⟨show n ≤ 5 by omega, congrArg SourceFields.wire val.symm⟩
    · rintro ⟨-, becomes⟩
      cases y with
      | wire k => exact ⟨k, asIndex_eq_some.2 (SourceFields.wire.inj becomes).symm, rfl⟩
      | message => cases becomes
      | speed on off => cases becomes
  | message => cases y <;> simp [SourceFields.asSource, SourceFields.Legal, SourceFields.Becomes]
  | speed on off =>
    have ranges : (decide (on ≤ 250) && decide (off ≤ 250) && decide (off < on)) = true ↔ on ≤ 250 ∧ off < on := by
      simp only [Bool.and_eq_true, decide_eq_true_eq]
      omega
    simp only [SourceFields.asSource, ranges]
    cases y <;> simp [SourceFields.Legal, SourceFields.Becomes]
  | unknown => simp [SourceFields.asSource, SourceFields.Legal]

/-- A legal source of the fields is some source. -/
theorem legal_asSource {x : SourceFields} (h : SourceFields.Legal x) : ∃ y, x.asSource = some y := by
  cases x with
  | wire n => exact ⟨.wire ⟨n, Nat.lt_succ_of_le h⟩, asSource_eq_some.2 ⟨h, rfl⟩⟩
  | message => exact ⟨.message, rfl⟩
  | speed on off => exact ⟨.speed on off, asSource_eq_some.2 ⟨h, rfl⟩⟩
  | unknown => exact h.elim

/-- The carried items of a signal are in order. -/
def SignalFields.Legal (f : SignalFields) : Prop :=
  SourceFields.Legal f.source ∧ f.failRule.isSome = true ∧ 50 ≤ f.timeout ∧ f.timeout ≤ 5000

theorem within_iff (x lo hi : Nat) : within x lo hi = true ↔ lo ≤ x ∧ x ≤ hi := by
  simp [within]

theorem signalItems_eq_some {f : SignalFields} {y : SignalItems} : f.asItems = some y ↔
    (f.source.asSource = some y.source ∧ f.failRule = some y.failRule ∧ y.timeout = f.timeout) ∧
      50 ≤ f.timeout ∧ f.timeout ≤ 5000 := by
  rw [← within_iff]
  obtain ⟨source, rule, timeout⟩ := y
  cases hs : f.source.asSource with
  | none => simp [SignalFields.asItems, hs]
  | some x =>
    cases hr : f.failRule with
    | none => simp [SignalFields.asItems, hs, hr]
    | some r => cases ht : within f.timeout 50 5000 <;> simp [SignalFields.asItems, hs, hr, ht, eq_comm]

theorem wireItems_eq_some {f : WireFields} {y : WireItems} :
    f.asItems = some y ↔ f.polarity = some y.polarity ∧ y.debounce = debounceOf f.debounce := by
  obtain ⟨polarity, debounce⟩ := y
  cases hp : f.polarity <;> simp [WireFields.asItems, hp, eq_comm]

theorem allSome_eq_some {α : Type} {n : Nat} {v : Vector (Option α) n} {w : Vector α n} :
    allSome v = some w ↔ ∀ i : Fin n, v[i] = some w[i] := by
  unfold allSome
  constructor
  · intro h i
    split at h
    · next all =>
      rw [← Option.some.inj h, tabulate_fin, Option.some_get]
    · cases h
  · intro h
    have all : ∀ i : Fin n, (v[i]).isSome := fun i => by rw [h i]; rfl
    rw [dif_pos all]
    refine congrArg some (Vector.ext fun i hi => ?_)
    exact (tabulate_fin _ ⟨i, hi⟩).trans (Option.get_of_eq_some _ (h ⟨i, hi⟩))

theorem allSome_of_all {α : Type} {n : Nat} {v : Vector (Option α) n} (h : ∀ i : Fin n, ∃ y, v[i] = some y) :
    ∃ w, allSome v = some w := by
  have all : ∀ i : Fin n, (v[i]).isSome := fun i => Option.isSome_iff_exists.2 (h i)
  exact ⟨_, dif_pos all⟩

/-- The whole carried configuration is in order (R128, R136). -/
def SignalConfigFields.Legal (f : SignalConfigFields) : Prop :=
  (∀ i : Fin 16, SignalFields.Legal f.signals[i]) ∧ (∀ n : Fin 6, f.wires[n].polarity.isSome = true) ∧
  50 ≤ f.speedTimeout ∧ f.speedTimeout ≤ 5000 ∧ f.moving ≤ 15

/-- The configuration taken holds what was carried, debounce times rounded up (R136). -/
structure SignalConfigFields.Becomes (f : SignalConfigFields) (c : SignalConfig) : Prop where
  signals : ∀ i : Fin 16, f.signals[i].asItems = some c.signals[i]
  wires : ∀ n : Fin 6, f.wires[n].asItems = some c.wires[n]
  timeout : c.speedTimeout = f.speedTimeout
  moving : c.moving.val = f.moving
  wakeSet : c.wakeSet = f.wakeSet

section
variable {f : SignalConfigFields} {c : SignalConfig}

theorem asConfig_becomes (h : f.asConfig = some c) : SignalConfigFields.Legal f ∧ SignalConfigFields.Becomes f c := by
  unfold SignalConfigFields.asConfig at h
  split at h
  · next signals wires moving hs hw ht hm =>
    obtain rfl := Option.some.inj h
    have items (i : Fin 16) : f.signals[i].asItems = some signals[i] :=
      (mapTable_get _ _ i.val i.isLt).symm.trans (allSome_eq_some.1 hs i)
    have wired (n : Fin 6) : f.wires[n].asItems = some wires[n] :=
      (mapTable_get _ _ n.val n.isLt).symm.trans (allSome_eq_some.1 hw n)
    obtain ⟨low, high⟩ := (within_iff _ _ _).1 ht
    have index := asIndex_eq_some.1 hm
    refine ⟨⟨fun i => ?_, fun n => ?_, low, high, by omega⟩, items, wired, rfl, index, rfl⟩
    · obtain ⟨⟨source, rule, -⟩, range⟩ := signalItems_eq_some.1 (items i)
      exact ⟨(asSource_eq_some.1 source).1, by rw [rule]; rfl, range⟩
    · rw [(wireItems_eq_some.1 (wired n)).1]
      rfl
  · cases h

/-- A configuration in order is taken. -/
theorem legal_asConfig (h : SignalConfigFields.Legal f) : ∃ c, f.asConfig = some c := by
  obtain ⟨signals, wires, low, high, moving⟩ := h
  obtain ⟨items, hitems⟩ : ∃ w, allSome (mapTable SignalFields.asItems f.signals) = some w := allSome_of_all fun i => by
    obtain ⟨source, rule, range⟩ := signals i
    obtain ⟨x, hx⟩ := legal_asSource source
    obtain ⟨r, hr⟩ := Option.isSome_iff_exists.1 rule
    exact ⟨⟨x, r, f.signals[i].timeout⟩,
      (mapTable_get _ _ i.val i.isLt).trans (signalItems_eq_some.2 ⟨⟨hx, hr, rfl⟩, range⟩)⟩
  obtain ⟨wired, hwired⟩ : ∃ w, allSome (mapTable WireFields.asItems f.wires) = some w := allSome_of_all fun n => by
    obtain ⟨p, hp⟩ := Option.isSome_iff_exists.1 (wires n)
    exact ⟨⟨p, debounceOf f.wires[n].debounce⟩,
      (mapTable_get _ _ n.val n.isLt).trans (wireItems_eq_some.2 ⟨hp, rfl⟩)⟩
  unfold SignalConfigFields.asConfig
  split
  · exact ⟨_, rfl⟩
  · next refused =>
    exact (refused items wired ⟨f.moving, by omega⟩ hitems hwired ((within_iff _ _ _).2 ⟨low, high⟩)
      (asIndex_eq_some.2 rfl)).elim

end

/-! ### The unit with the configuration taken (R130, R136) -/

/-- `v` is `u` with another configuration: what becomes of its wires and its signals by the configurations before and after. -/
structure SignalUnit.Reconfigured (u v : SignalUnit) (now : Nat) : Prop where
  rest : v = { u with config := v.config, wires := v.wires, signals := v.signals }
  wire : ∀ n : Fin 6, v.wires[n] = if u.config.wires[n].debounce = v.config.wires[n].debounce then u.wires[n]
    else u.wires[n].retime v.config.wires[n].debounce now
  signal : ∀ i : Fin 16, v.signals[i] = if sameSource u.config.signals[i].source v.config.signals[i].source then
      v.adjust u.config.signals[i] v.config.signals[i] u.signals[i]
    else v.reinitialise v.config.signals[i] u.signals[i]

theorem configure_reconfigured (u : SignalUnit) (c : SignalConfig) (now : Nat) : u.Reconfigured (u.configure c now) now where
  rest := configure_rest u c now
  wire := configure_wire u c now
  signal := configure_signal u c now

theorem configure_config (u : SignalUnit) (c : SignalConfig) (now : Nat) : (u.configure c now).config = c := by
  rw [configure_rest]

theorem sameSource_wire {a : Source} {n : Fin 6} : sameSource a (.wire n) = true ↔ a = .wire n := by
  simp [sameSource_iff]

theorem sameSource_message {a : Source} : sameSource a .message = true ↔ a = .message := by
  simp [sameSource_iff]

theorem sameSource_speed {a : Source} {on off : Nat} : sameSource a (.speed on off) = true ↔ ∃ x y, a = .speed x y := by
  simp [sameSource_iff]

section
variable {u v : SignalUnit} {now : Nat} (h : u.Reconfigured v now)
include h

theorem SignalUnit.Reconfigured.kept (i : Fin 16)
    (same : sameSource u.config.signals[i].source v.config.signals[i].source = true) :
    v.signals[i] = v.adjust u.config.signals[i] v.config.signals[i] u.signals[i] :=
  (h.signal i).trans (if_pos same)

theorem SignalUnit.Reconfigured.fresh (i : Fin 16)
    (other : ¬sameSource u.config.signals[i].source v.config.signals[i].source = true) :
    v.signals[i] = v.reinitialise v.config.signals[i] u.signals[i] :=
  (h.signal i).trans (if_neg other)

theorem SignalUnit.Reconfigured.speed : v.speed = u.speed := by rw [h.rest]

theorem SignalUnit.Reconfigured.speedFresh : v.speedFresh = u.speedFresh := by rw [h.rest]

/-- A debouncer whose time stays, or whose timer does not run, is kept (R130). -/
theorem SignalUnit.Reconfigured.wire_kept (n : Fin 6)
    (stays : v.config.wires[n].debounce = u.config.wires[n].debounce ∨ u.wires[n].timer = none) : v.wires[n] = u.wires[n] := by
  rw [h.wire]
  split
  · rfl
  · next differs =>
    have stopped := stays.resolve_left fun e => differs e.symm
    rw [Debouncer.retime, stopped]

theorem SignalUnit.Reconfigured.wire_retimed (n : Fin 6)
    (differs : v.config.wires[n].debounce ≠ u.config.wires[n].debounce) (runs : u.wires[n].timer ≠ none) :
    v.wires[n] = if u.wires[n].lastChange + 300 * v.config.wires[n].debounce ≤ now then
      { u.wires[n] with accepted := u.wires[n].raw, timer := none }
    else { u.wires[n] with timer := some (u.wires[n].lastChange + 300 * v.config.wires[n].debounce) } := by
  obtain ⟨x, hx⟩ := Option.ne_none_iff_exists'.1 runs
  rw [h.wire, if_neg differs.symm, Debouncer.retime, hx]
  rfl

variable {i : Fin 16}

/-- A WIRE signal takes its wire's activity, and one that was none of this wire has no freshness and no timer. -/
theorem SignalUnit.Reconfigured.wireSignal {n : Fin 6} (after : v.config.signals[i].source = .wire n) :
    (v.signals[i]).value = v.active n ∧
    (u.config.signals[i].source ≠ .wire n → (v.signals[i]).freshness = .none ∧ (v.signals[i]).timer = none) := by
  by_cases before : u.config.signals[i].source = .wire n
  · rw [h.kept i (after ▸ sameSource_wire.2 before), adjust_wire after]
    exact ⟨rfl, fun other => absurd before other⟩
  · rw [h.fresh i (after ▸ mt sameSource_wire.1 before), reinitialise_wire after]
    exact ⟨rfl, fun _ => ⟨rfl, rfl⟩⟩

theorem SignalUnit.Reconfigured.message_fresh (after : v.config.signals[i].source = .message)
    (before : u.config.signals[i].source ≠ .message) :
    v.signals[i] = (u.signals[i]).fail v.config.signals[i].failRule := by
  rw [h.fresh i (after ▸ mt sameSource_message.1 before), reinitialise_message after]

theorem SignalUnit.Reconfigured.message_kept (after : v.config.signals[i].source = .message)
    (before : u.config.signals[i].source = .message) :
    v.signals[i] = if (u.signals[i]).freshness = .stale ∧ u.config.signals[i].failRule ≠ v.config.signals[i].failRule then
      { u.signals[i] with value := failValue v.config.signals[i].failRule (u.signals[i]).value } else u.signals[i] := by
  rw [h.kept i (after ▸ sameSource_message.2 before), adjust_message after]

variable {on off : Nat} (after : v.config.signals[i].source = .speed on off)
include after

theorem SignalUnit.Reconfigured.speed_fresh (before : ∀ x y, u.config.signals[i].source ≠ .speed x y) :
    v.signals[i] = v.reinitialise v.config.signals[i] u.signals[i] := by
  refine h.fresh i ?_
  rw [after, sameSource_speed]
  exact fun ⟨x, y, e⟩ => before x y e

theorem SignalUnit.Reconfigured.speed_kept {x y : Nat} (before : u.config.signals[i].source = .speed x y) :
    v.signals[i] = v.adjust u.config.signals[i] v.config.signals[i] u.signals[i] :=
  h.kept i (after ▸ sameSource_speed.2 ⟨x, y, before⟩)

/-- With a FRESH speed a new SPEED signal takes its value by its thresholds from false, and one that was a SPEED signal by changed
thresholds from its value. -/
theorem SignalUnit.Reconfigured.speed_known {k : Nat} (fresh : u.speedFresh = true) (speed : u.speed = some k) :
    ((∀ x y, u.config.signals[i].source ≠ .speed x y) → v.signals[i] = ⟨decide (on ≤ k), .fresh, none⟩) ∧
    (∀ x y, u.config.signals[i].source = .speed x y → v.signals[i] = if x = on ∧ y = off then u.signals[i]
      else { u.signals[i] with value := if on ≤ k then true else if k ≤ off then false else (u.signals[i]).value }) := by
  have known : v.speed = some k := h.speed.trans speed
  have taken : v.speedFresh = true := h.speedFresh.trans fresh
  refine ⟨fun before => ?_, fun x y before => ?_⟩
  · rw [h.speed_fresh after before, reinitialise_known after taken known]
    have first : speedValue on off k false = decide (on ≤ k) := by
      rw [speedValue, ite_self]
      by_cases hk : on ≤ k <;> simp [hk]
    rw [first]
  · rw [h.speed_kept after before, adjust_known after taken known, before, after]
    exact if_congr (by rw [Source.speed.injEq]) rfl rfl

/-- Without one, a new SPEED signal fails, and one that was a SPEED signal takes a changed fail rule while it is STALE. -/
theorem SignalUnit.Reconfigured.speed_unknown (stale : u.speedFresh = false) :
    ((∀ x y, u.config.signals[i].source ≠ .speed x y) → v.signals[i] = (u.signals[i]).fail v.config.signals[i].failRule) ∧
    (∀ x y, u.config.signals[i].source = .speed x y → v.signals[i] =
      if (u.signals[i]).freshness = .stale ∧ u.config.signals[i].failRule ≠ v.config.signals[i].failRule then
        { u.signals[i] with value := failValue v.config.signals[i].failRule (u.signals[i]).value } else u.signals[i]) := by
  have none_taken : v.speedFresh = false := h.speedFresh.trans stale
  refine ⟨fun before => ?_, fun x y before => ?_⟩
  · rw [h.speed_fresh after before, reinitialise_unknown after none_taken]
  · rw [h.speed_kept after before, adjust_unknown after none_taken]

end

/-! ### The request -/

section
variable {s : State} {f : SignalConfigFields}

theorem answerSetSignalConfig_illegal (h : ¬SignalConfigFields.Legal f) : answerSetSignalConfig f s = refuse s .badValue := by
  unfold answerSetSignalConfig
  split
  · next c hc => exact absurd (asConfig_becomes hc).1 h
  · rfl

theorem answerSetSignalConfig_taken {c : SignalConfig} (h : f.asConfig = some c) :
    answerSetSignalConfig f s = accept (s.signalEvent (s.sig.configure c s.clock)) .nothing := by
  unfold answerSetSignalConfig
  split
  · next d hd =>
    obtain rfl := Option.some.inj (h.symm.trans hd)
    rfl
  · next none_ => cases h.symm.trans none_

end

/-- Settles O45: the tests by the fields, and the effect by the configurations before and after. -/
theorem signalConfigTakenWhole : Obligations.SignalConfigTakenWhole := by
  intro s h f hp hlen a run legalSource becomes legal
  have length := lengthIs_eq hlen
  have legal_iff : legal ↔ SignalConfigFields.Legal f := Iff.rfl
  refine ⟨fun illegal => request_refused hp length (answerSetSignalConfig_illegal (mt legal_iff.2 illegal)), fun inOrder => ?_⟩
  obtain ⟨c, hc⟩ := legal_asConfig (legal_iff.1 inOrder)
  have taken := request_accepted (g := h) (type := 0x39#8) hp length (answerSetSignalConfig_taken hc)
  have carried := (asConfig_becomes hc).2
  have whole := configure_reconfigured a.sig c a.clock
  rw [← configure_config a.sig c a.clock] at carried
  refine ⟨a.sig.configure c a.clock, taken, ?_⟩
  clear taken
  generalize a.sig.configure c a.clock = u at carried whole
  refine ⟨whole.rest, fun i => ?_, fun n => ?_, carried.timeout, carried.moving, carried.wakeSet,
    fun n => ⟨whole.wire_kept n, whole.wire_retimed n⟩, fun i => ?_⟩
  · obtain ⟨⟨source, rule, timeout⟩, -⟩ := signalItems_eq_some.1 (carried.signals i)
    exact ⟨(asSource_eq_some.1 source).2, rule, timeout⟩
  · exact wireItems_eq_some.1 (carried.wires n)
  · intro r before rule failed
    exact ⟨fun n after => whole.wireSignal after,
      fun after => ⟨whole.message_fresh after, whole.message_kept after⟩,
      fun on off v after => whole.speed_known after,
      fun on off after => whole.speed_unknown after⟩

end Sys2Proof.Machine
end

section
/-! The view selector: what a re-evaluation makes of each entry and of the choice (R142 to R144, R146, R147). -/

set_option Elab.async false

namespace Sys2Proof.Machine

/-! ### Terms, reload signals and the release time (R142 to R144) -/

section
variable (c : EntryConfig) (u : SignalUnit)

theorem termsHold_iff : EntryConfig.termsHold c u.values = true ↔
    ∀ x ∈ c.terms, u.signals[x.signal].value = x.wanted := by
  simp [EntryConfig.termsHold, SignalUnit.values]

theorem reloadTrue_iff : EntryConfig.reloadTrue c u.values = true ↔
    ∃ n : Fin 16, c.reload.getLsbD n = true ∧ u.signals[n].value = true := by
  simp [EntryConfig.reloadTrue, SignalUnit.values]

end

/-- The rest of the dwell time lengthens the release of the active choice; once the dwell time is over there is no rest. -/
theorem releaseTime_eq (c : EntryConfig) (active : Bool) (elapsed : Nat) : releaseTime c active elapsed =
    if active = true then max c.release (c.dwell - elapsed) else c.release := by
  unfold releaseTime
  cases active with
  | false => rfl
  | true =>
    by_cases dwelling : elapsed < c.dwell
    · simp [dwelling]
    · have elapsed_whole : c.dwell - elapsed = 0 := by omega
      simp [dwelling, elapsed_whole]

/-! ### An entry judged (R143, R144) -/

section
variable {e : Entry} {values : Vector Bool 16} {active : Bool} {elapsed now : Nat}

variable {start : Nat} {timer : Option Nat}

/-- While a reload signal is true the timer is held at its starting value. -/
theorem releasing_reloaded {reload : Bool} (h : reload = true) : releasing start timer reload now = .releasing start none := by
  rw [releasing, if_pos h]

/-- Without one the timer runs: from where it stands, or from its starting value. -/
theorem releasing_running {reload : Bool} (h : ¬reload = true) :
    releasing start timer reload now = .releasing start (some (timer.getD (now + 300 * start))) := by
  rw [releasing, if_neg h]
  rfl

variable (fails : ¬EntryConfig.termsHold e.config values = true)
include fails

theorem judge_idle (h : e.state = .idle) : (e.judge values active elapsed now).state = .idle := by
  simp [Entry.judge, fails, h]

theorem judge_continues (h : e.state = .releasing start timer) : (e.judge values active elapsed now).state =
    releasing start timer (EntryConfig.reloadTrue e.config values) now := by
  simp [Entry.judge, fails, h]

variable (held : e.state = .held) {time : Nat} (ht : releaseTime e.config active elapsed = time)
include held ht

theorem judge_released (h : time = 0) : (e.judge values active elapsed now).state = .idle := by
  simp [Entry.judge, fails, held, ht, h]

theorem judge_begins (h : time ≠ 0) : (e.judge values active elapsed now).state =
    releasing time none (EntryConfig.reloadTrue e.config values) now := by
  simp [Entry.judge, fails, held, ht, h]

end

/-! ### The choice (R146) -/

section
variable {entries : Vector (Option Entry) 16} {hi : Nat} {i : Fin 16}

theorem slotClaims_iff {x : Option Entry} : slotClaims x = true ↔ ∃ e, x = some e ∧ e.state ≠ .idle := by
  cases x with
  | none => simp [slotClaims]
  | some e =>
    obtain ⟨c, state⟩ := e
    cases state <;> simp [slotClaims, Entry.claiming]

theorem firstClaiming_eq_none (h : ∀ i : Fin 16, i.val < hi → ¬slotClaims entries[i] = true) :
    firstClaiming entries 0 hi = none := by
  refine List.find?_eq_none.2 fun i _ => ?_
  simpa using h i

theorem firstClaiming_eq_some (below : i.val < hi) (claims : slotClaims entries[i] = true)
    (first : ∀ j < i, ¬slotClaims entries[j] = true) : firstClaiming entries 0 hi = some i := by
  refine List.find?_eq_some_iff_getElem.2 ⟨by simpa [below] using claims, i.val, by simp, by simp, fun j hj => ?_⟩
  have silent : slotClaims entries[j] = false := Bool.eq_false_iff.2 (first ⟨j, by omega⟩ hj)
  simp [silent]

variable {z : Selector}

/-- The rank below which an entry comes before the override; without an override every entry comes first. -/
def Selector.rank (z : Selector) : Nat :=
  match z.override with
  | some o => o.rank
  | none => 16

theorem choice_eq (z : Selector) : z.choice = match firstClaiming z.entries 0 z.rank with
    | some i => .entry i
    | none => if z.override.isSome then .override else .default := by
  unfold Selector.choice Selector.rank
  cases z.override <;> rfl

theorem choice_entry (below : i.val < z.rank) (claims : slotClaims z.entries[i] = true)
    (first : ∀ j < i, ¬slotClaims z.entries[j] = true) : z.choice = .entry i := by
  rw [choice_eq, firstClaiming_eq_some below claims first]

theorem choice_noEntry (h : ∀ i : Fin 16, i.val < z.rank → ¬slotClaims z.entries[i] = true) :
    z.choice = if z.override.isSome then .override else .default := by
  rw [choice_eq, firstClaiming_eq_none h]

theorem viewOf_entry {e : Entry} (h : z.entries[i] = some e) : z.viewOf (.entry i) = e.config.view := by
  simp only [Selector.viewOf, h]

theorem viewOf_default (z : Selector) : z.viewOf .default = z.defaultView := rfl

theorem viewOf_override {o : Override} (h : z.override = some o) : z.viewOf .override = o.view := by
  simp only [Selector.viewOf, h]

end

/-! ### The re-evaluation (R147) -/

section
variable (z : Selector) (timeBase : Nat)

theorem choose_override : (z.choose timeBase).override = z.override := rfl

theorem choose_defaultView : (z.choose timeBase).defaultView = z.defaultView := rfl

variable (values : Vector Bool 16) (now : Nat)

theorem judge_active : (z.judge values timeBase now).active = z.active := by unfold Selector.judge; rfl

theorem judge_activation : (z.judge values timeBase now).activation = z.activation := by unfold Selector.judge; rfl

end

section
variable (s : State)

/-- Nothing outside the selector changes. -/
theorem reevaluate_rest : s.reevaluate = { s with sel := s.reevaluate.sel } := rfl

theorem reevaluate_override : s.reevaluate.sel.override = s.sel.override := by
  rw [State.reevaluate_sel, choose_override, judge_override]

theorem reevaluate_defaultView : s.reevaluate.sel.defaultView = s.sel.defaultView := by
  rw [State.reevaluate_sel, choose_defaultView, judge_defaultView]

theorem reevaluate_rank : s.reevaluate.sel.rank = s.sel.rank := by
  rw [Selector.rank, Selector.rank, reevaluate_override]

theorem reevaluate_activation : s.reevaluate.sel.activation =
    if s.reevaluate.sel.active = s.sel.active then s.sel.activation else s.timeBase := by
  rw [State.reevaluate_sel, choose_activation, choose_active, judge_active, judge_activation]

/-- The entries of a re-evaluated selector: each judged on the signals, the choice and the activation before. -/
theorem reevaluate_entry (i : Fin 16) : s.reevaluate.sel.entries[i] = (s.sel.entries[i]).map fun e =>
    e.judge s.sig.values (decide (s.sel.active = .entry i)) (elapsedMs s.timeBase s.sel.activation) s.clock := by
  rw [State.reevaluate_sel, choose_entries, selector_judge_entry]

theorem reevaluate_entry_some {i : Fin 16} {e : Entry} (he : s.sel.entries[i] = some e) :
    s.reevaluate.sel.entries[i] = some { e with state :=
      (e.judge s.sig.values (decide (s.sel.active = .entry i)) (elapsedMs s.timeBase s.sel.activation) s.clock).state } := by
  rw [reevaluate_entry, he]
  rfl

theorem reevaluate_active : s.reevaluate.sel.active = s.reevaluate.sel.choice := (reevaluate_selectionSafe s).1

theorem reevaluate_selected : s.reevaluate.sel.selected = s.reevaluate.sel.viewOf s.reevaluate.sel.active :=
  (reevaluate_selectionSafe s).2.1

end

/-- Settles O35: each entry by its state before, the choice by the first claiming entry, the view by the choice. -/
theorem reevaluationJudgesAndChooses : Obligations.ReevaluationJudgesAndChooses := by
  intro s t elapsed claims rank
  have claims_iff (i : Fin 16) : claims i ↔ slotClaims t.sel.entries[i] = true := slotClaims_iff.symm
  have same_rank : t.sel.rank = rank := reevaluate_rank s
  refine ⟨reevaluate_rest s, reevaluate_override s, reevaluate_defaultView s, fun i empty => ?_, fun i e he => ?_,
    fun i claiming below first => ?_, fun silent => ?_,
    fun i e chosen he => ?_, fun o chosen ho => ?_, fun chosen => ?_, reevaluate_activation s⟩
  · rw [reevaluate_entry, empty]
    rfl
  · intro holds reload R
    have holds_iff := termsHold_iff e.config s.sig
    have reload_iff := reloadTrue_iff e.config s.sig
    have time : releaseTime e.config (decide (s.sel.active = .entry i)) (elapsedMs s.timeBase s.sel.activation) = R :=
      (releaseTime_eq ..).trans (if_congr decide_eq_true_iff rfl rfl)
    refine ⟨_, reevaluate_entry_some s he, fun h => (judge_held ..).2 (holds_iff.2 h), ?_⟩
    refine ⟨fun fails => judge_idle (mt holds_iff.1 fails),
      fun fails held => judge_released (mt holds_iff.1 fails) held time,
      fun fails held more reloaded => ?_, fun fails held more still => ?_, fun r timer fails state reloaded => ?_,
      fun r d fails state still => ?_, fun r fails state still => ?_⟩
    · rw [judge_begins (mt holds_iff.1 fails) held time more, releasing_reloaded (reload_iff.2 reloaded)]
    · rw [judge_begins (mt holds_iff.1 fails) held time more, releasing_running (mt reload_iff.1 still)]
      rfl
    · rw [judge_continues (mt holds_iff.1 fails) state, releasing_reloaded (reload_iff.2 reloaded)]
    · rw [judge_continues (mt holds_iff.1 fails) state, releasing_running (mt reload_iff.1 still)]
      rfl
    · rw [judge_continues (mt holds_iff.1 fails) state, releasing_running (mt reload_iff.1 still)]
      rfl
  · rw [reevaluate_active]
    exact choice_entry (z := t.sel) (same_rank.symm ▸ below) ((claims_iff i).1 claiming)
      fun j hj => mt (claims_iff j).2 (first j hj)
  · rw [reevaluate_active, ← reevaluate_override s]
    exact choice_noEntry (z := t.sel) fun i below => mt (claims_iff i).2 (silent i (same_rank ▸ below))
  · rw [reevaluate_selected, chosen]
    exact viewOf_entry he
  · rw [reevaluate_selected, chosen]
    exact viewOf_override ((reevaluate_override s).trans ho)
  · rw [reevaluate_selected, chosen, viewOf_default, reevaluate_defaultView]

end Sys2Proof.Machine
end

section
/-! The requests and the timers of the view selector: the table, the default view, the override and the release timers
(R141, R144, R145, R149 to R153). -/

set_option Elab.async false

namespace Sys2Proof.Machine

/-! ### The fields of an entry (R141, R149) -/

/-- A term of the table is what a carried one says. -/
def TermFields.Becomes (x : TermFields) (y : Term) : Prop := x.signal = y.signal.val ∧ x.wanted = some y.wanted

/-- The range of a carried term. -/
def TermFields.Legal (x : TermFields) : Prop := x.signal ≤ 15 ∧ x.wanted.isSome = true

/-- The tests of R149 step 1 but that of the index. -/
def EntryFields.Legal (f : EntryFields) : Prop :=
  1 ≤ f.terms.length ∧ f.terms.length ≤ 4 ∧ (∀ x ∈ f.terms, TermFields.Legal x) ∧ f.view ≤ 15 ∧ f.dwell ≤ 10000

/-- An entry's fields are what SET_SELECTION_ENTRY carried, the release time limited (R149 step 2). -/
structure EntryFields.Becomes (f : EntryFields) (e : EntryConfig) : Prop where
  terms : List.Forall₂ TermFields.Becomes f.terms e.terms
  view : e.view.val = f.view
  dwell : e.dwell = f.dwell
  release : e.release = min f.release 60000
  reload : e.reload = f.reload

section
variable {x : TermFields} {y : Term} {f : EntryFields} {e : EntryConfig}

theorem asTerm_eq_some : x.asTerm = some y ↔ TermFields.Becomes x y := by
  unfold TermFields.asTerm
  split
  · next signal wanted hs hw =>
    obtain ⟨ys, yw⟩ := y
    simp [TermFields.Becomes, hw, ← asIndex_eq_some.1 hs, Fin.ext_iff]
  · next no =>
    simp only [reduceCtorEq, false_iff]
    rintro ⟨hs, hw⟩
    exact no _ _ (asIndex_eq_some.2 hs.symm) hw

theorem exists_asTerm_iff : (∃ y, x.asTerm = some y) ↔ TermFields.Legal x := by
  simp only [asTerm_eq_some]
  constructor
  · rintro ⟨y, hs, hw⟩
    exact ⟨by omega, by rw [hw]; rfl⟩
  · rintro ⟨small, coded⟩
    obtain ⟨wanted, hw⟩ := Option.isSome_iff_exists.1 coded
    exact ⟨⟨⟨x.signal, by omega⟩, wanted⟩, rfl, hw⟩

theorem mapM_asTerm_iff {l : List TermFields} {r : List Term} :
    l.mapM TermFields.asTerm = some r ↔ List.Forall₂ TermFields.Becomes l r := by
  simp only [mapM_eq_some_iff, asTerm_eq_some]

theorem asEntry_becomes (h : f.asEntry = some e) : EntryFields.Legal f ∧ EntryFields.Becomes f e := by
  unfold EntryFields.asEntry at h
  split at h
  · next terms view count ht hv hd =>
    obtain rfl := Option.some.inj h
    obtain ⟨least, most⟩ := (within_iff _ _ _).1 count
    have index := asIndex_eq_some.1 hv
    have each := exists_forall₂_iff.1 ⟨terms, mapM_eq_some_iff.1 ht⟩
    exact ⟨⟨least, most, fun x hx => exists_asTerm_iff.1 (each x hx), by omega, of_decide_eq_true hd⟩,
      mapM_asTerm_iff.1 ht, index, rfl, rfl, rfl⟩
  · cases h

/-- Fields in order are taken. -/
theorem legal_asEntry (h : EntryFields.Legal f) : ∃ e, f.asEntry = some e := by
  obtain ⟨least, most, each, view, dwell⟩ := h
  obtain ⟨terms, made⟩ := exists_forall₂_iff.2 fun x hx => exists_asTerm_iff.2 (each x hx)
  unfold EntryFields.asEntry
  split
  · exact ⟨_, rfl⟩
  · next refused =>
    exact (refused terms ⟨f.view, by omega⟩ ((within_iff _ _ _).2 ⟨least, most⟩) (mapM_eq_some_iff.2 made)
      (asIndex_eq_some.2 rfl) (decide_eq_true dwell)).elim

end

/-! ### The table and the default view (R149 to R151) -/

theorem definedView_eq_false {s : State} {n : Fin 16} (h : s.views[n] = none) : s.definedView n = false :=
  Bool.eq_false_iff.2 fun defined => definedView_iff.1 defined h

section
variable {s : State} {i n : Fin 16} {number : Nat} {f : EntryFields} {e : EntryConfig}

theorem answerSetEntry_illegal (h : ¬(number ≤ 15 ∧ EntryFields.Legal f)) :
    answerSetEntry number f s = refuse s .badValue := by
  unfold answerSetEntry
  split
  · next i e hi he =>
    have small : number ≤ 15 := by
      have := asIndex_eq_some.1 hi
      omega
    exact absurd ⟨small, (asEntry_becomes he).1⟩ h
  · rfl

section
variable (he : f.asEntry = some e)
include he

theorem answerSetEntry_undefined (h : s.views[e.view] = none) : answerSetEntry i.val f s = refuse s .notFound := by
  rw [answerSetEntry, asIndex_val, he]
  simp [definedView_eq_false h]

theorem answerSetEntry_defined (h : s.views[e.view] ≠ none) : answerSetEntry i.val f s =
    accept (State.reevaluate { s with sel := { s.sel with entries := s.sel.entries.set i (some ⟨e, .idle⟩) } })
      .nothing := by
  rw [answerSetEntry, asIndex_val, he]
  simp [definedView_iff.2 h, idleEntry]

end

theorem answerClearEntry_above (h : 15 < number) : answerClearEntry number s = refuse s .badValue := by
  rw [answerClearEntry, asIndex_none h]

theorem answerClearEntry_val : answerClearEntry i.val s =
    accept (State.reevaluate { s with sel := { s.sel with entries := s.sel.entries.set i none } }) .nothing := by
  rw [answerClearEntry, asIndex_val]

theorem answerSetDefault_above (h : 15 < number) : answerSetDefault number s = refuse s .badValue := by
  rw [answerSetDefault, asIndex_none h]

theorem answerSetDefault_undefined (h : s.views[n] = none) : answerSetDefault n.val s = refuse s .notFound := by
  rw [answerSetDefault, asIndex_val]
  simp [definedView_eq_false h]

theorem answerSetDefault_defined (h : s.views[n] ≠ none) : answerSetDefault n.val s =
    accept (State.reevaluate { s with sel := { s.sel with defaultView := n } }) .nothing := by
  rw [answerSetDefault, asIndex_val]
  simp [definedView_iff.2 h]

end

/-- Settles O36: the carried fields are legal exactly when they make an entry, and that entry is what they carried. -/
theorem selectionRequestsReevaluate : Obligations.SelectionRequestsReevaluate := by
  intro s h number hp a answers
  refine ⟨fun f hcount hlen fits => ?_, fun hlen => ⟨fun above => ?_, fun n hn => ?_⟩⟩
  · have length := lengthCounts_eq hcount hlen fits
    intro run legal
    have legal_iff : legal ↔ number ≤ 15 ∧ EntryFields.Legal f := Iff.rfl
    refine ⟨fun illegal => request_refused hp length (answerSetEntry_illegal (mt legal_iff.2 illegal)),
      fun i n hi hn inOrder => ?_⟩
    subst hi
    obtain ⟨e, he⟩ := legal_asEntry (legal_iff.1 inOrder).2
    have carried := (asEntry_becomes he).2
    obtain rfl : e.view = n := Fin.ext (carried.view.trans hn)
    exact ⟨fun undefined => request_refused hp length (answerSetEntry_undefined he undefined),
      fun defined => ⟨e, carried.terms, rfl, carried.dwell, carried.release, carried.reload,
        request_accepted hp length (answerSetEntry_defined he defined)⟩⟩
  · have length := lengthIs_eq hlen
    exact ⟨request_refused hp length (answerClearEntry_above above),
      request_refused hp length (answerSetDefault_above above)⟩
  · have length := lengthIs_eq hlen
    subst hn
    exact ⟨request_accepted hp length answerClearEntry_val,
      fun undefined => request_refused hp length (answerSetDefault_undefined undefined),
      fun defined => request_accepted hp length (answerSetDefault_defined defined)⟩

/-! ### The override (R152, R153) -/

section
variable {s : State} {n : Fin 16} {view rank duration : Nat}

/-- Only a duration of 0 stays 0: it is the override that waits for its cancellation. -/
theorem overrideDuration_eq_zero : overrideDuration duration = 0 ↔ duration = 0 := by
  simp only [overrideDuration, clampNat]
  split <;> omega

theorem answerOverride_illegal (h : 15 < view ∨ 16 < rank) : answerOverride view rank duration s = refuse s .badValue := by
  unfold answerOverride
  split
  · rfl
  · next n hn =>
    have index := asIndex_eq_some.1 hn
    exact if_pos (by omega)

variable (low : rank ≤ 16)
include low

theorem answerOverride_undefined (h : s.views[n] = none) : answerOverride n.val rank duration s = refuse s .notFound := by
  rw [answerOverride, asIndex_val]
  simp [low, definedView_eq_false h]

theorem answerOverride_defined (h : s.views[n] ≠ none) : answerOverride n.val rank duration s =
    accept (State.reevaluate { s with sel := { s.sel with override := some ⟨n, rank, overrideDuration duration,
      if duration = 0 then none else some (s.clock + 300 * overrideDuration duration)⟩ } }) .nothing := by
  rw [answerOverride, asIndex_val]
  simp [low, definedView_iff.2 h, overrideDuration_eq_zero, millis, instantsPerMs]

end

section
variable {s : State}

theorem answerCancelOverride_none (h : s.sel.override = none) : answerCancelOverride s = refuse s .notFound := by
  simp [answerCancelOverride, h]

theorem answerCancelOverride_some (h : s.sel.override ≠ none) : answerCancelOverride s =
    accept (State.reevaluate { s with sel := { s.sel with override := none } }) .nothing :=
  if_pos (Option.isSome_iff_ne_none.2 h)

/-! ### The two timers (R145, R153) -/

theorem exec_overrideExpiry (hp : s.powered = true) {d : Nat} (h : s.overrideTimer = some d) :
    exec .overrideExpiry s = .next (State.endOverride ((s.atInstant (some d)).pulse itemOverrideEnded)).settle := by
  show execOverrideExpiry s = _
  rw [execOverrideExpiry, event_occurs _ hp (by rw [h]; rfl), h]

theorem exec_overrideExpiry_stopped (h : s.overrideTimer = none) : exec .overrideExpiry s = .next s := by
  show execOverrideExpiry s = _
  exact event_idle _ _ (by rw [h]; rfl)

theorem overrideTimer_eq_none (h : ∀ o, s.sel.override = some o → o.timer = none) : s.overrideTimer = none :=
  Option.bind_eq_none_iff.2 h

variable {i : Fin 16}

theorem releaseTimer_eq_some_iff {d : Nat} : s.releaseTimer i = some d ↔
    ∃ e r, s.sel.entries[i] = some e ∧ e.state = .releasing r (some d) := by
  unfold State.releaseTimer
  split
  · next e he =>
    split
    · next r t hs => simp [he, hs]
    · next no =>
      simp only [reduceCtorEq, false_iff]
      rintro ⟨e', r, he', hs⟩
      obtain rfl := Option.some.inj (he.symm.trans he')
      exact no _ _ hs
  · next he => simp [he]

/-- At its timer's instant an entry enters IDLE and the selector re-evaluates. -/
theorem exec_releaseTimerExpiry (hp : s.powered = true) {e : Entry} {d : Nat} (he : s.sel.entries[i] = some e)
    (h : s.releaseTimer i = some d) : exec (.releaseTimerExpiry i) s = .next (State.settle (State.reevaluate { s with
      clock := max s.clock d
      sel := { s.sel with entries := s.sel.entries.set i (some { e with state := .idle }) } })) := by
  show execReleaseTimerExpiry i s = _
  rw [execReleaseTimerExpiry, event_occurs _ hp (by rw [h]; rfl)]
  simp only [h, State.atInstant_sel, he]
  rfl

theorem exec_releaseTimerExpiry_stopped (h : s.releaseTimer i = none) : exec (.releaseTimerExpiry i) s = .next s := by
  show execReleaseTimerExpiry i s = _
  exact event_idle _ _ (by rw [h]; rfl)

end

/-- Settles O37: the tests of OVERRIDE_VIEW in their order, the two ends of an override, and the two timers by whether they run. -/
theorem overridesAndReleasesEnd : Obligations.OverridesAndReleasesEnd := by
  intro s h hp a answers
  refine ⟨fun hlen view rank duration => ?_, fun hlen => ?_, fun o d ho timed => ?_, fun untimed => ?_,
    fun i e r d he running => ?_, fun i stopped => ?_⟩
  · have length := lengthIs_eq hlen
    refine ⟨fun illegal => request_refused hp length (answerOverride_illegal illegal), fun n hn low => ?_⟩
    subst hn
    exact ⟨fun undefined => request_refused hp length (answerOverride_undefined low undefined),
      fun defined => request_accepted hp length (answerOverride_defined low defined)⟩
  · have length := lengthIs_eq hlen
    exact ⟨fun absent => request_refused hp length (answerCancelOverride_none absent),
      fun installed => request_accepted hp length (answerCancelOverride_some installed)⟩
  · exact exec_overrideExpiry hp (Option.bind_eq_some_iff.2 ⟨o, ho, timed⟩)
  · exact exec_overrideExpiry_stopped (overrideTimer_eq_none untimed)
  · exact exec_releaseTimerExpiry hp he (releaseTimer_eq_some_iff.2 ⟨e, r, he, running⟩)
  · refine exec_releaseTimerExpiry_stopped (Option.eq_none_iff_forall_ne_some.2 fun d running => ?_)
    obtain ⟨e, r, he, hs⟩ := releaseTimer_eq_some_iff.1 running
    exact stopped e r d he hs

end Sys2Proof.Machine
end

section
/-! The status unit's events and requests, the error queue, a save, and the loss of power (R156 to R163, R176, R178). -/

set_option Elab.async false

namespace Sys2Proof.Machine

/-! ### The end of an event (R156, R157) -/

/-- Settles O7: conditions, latched events, ATTN and the notice request, each by the law of the end of an event. -/
theorem eventEndLatchesAndRaisesAttn : Obligations.EventEndLatchesAndRaisesAttn := by
  rintro s t rfl
  have item (n : Fin 32) : s.settle.sts.conditions.getLsbD n = s.conditionItem n := by
    rw [settle_conditions, conditionsNow_getLsbD]
  refine ⟨rfl, settle_enable s, settle_errors s, item, fun n => ?_, ?_, ?_⟩
  · rw [settle_events, ← settle_conditions, BitVec.getLsbD_or, BitVec.getLsbD_and, BitVec.getLsbD_not, item]
    simp
  · rw [settle_attn]
    exact attnOf_true_iff _ _
  · rw [settle_noticePending]
    simp [and_comm]

/-! ### The error queue (R160, R161) -/

theorem pushError_overflows {l : List ErrorEntry} {x : ErrorEntry} (e : ErrorEntry) (full : (l ++ [x]).length = 16)
    (h : x.code ≠ .queueOverflow) : pushError (l ++ [x]) e = l ++ [⟨.queueOverflow, 2, e.time⟩] := by
  simp [pushError, full, h]

theorem pushError_counts {l : List ErrorEntry} {x : ErrorEntry} (e : ErrorEntry) (full : (l ++ [x]).length = 16)
    (h : x.code = .queueOverflow) : pushError (l ++ [x]) e = l ++ [{ x with detail := min (x.detail + 1) 255 }] := by
  simp [pushError, full, h]

/-- At the end of an event ERROR_PENDING, item 29, is true exactly while the queue holds an entry (R160). -/
theorem settle_errorPending (s : State) : s.settle.sts.conditions.getLsbD 29 = true ↔ s.sts.errors ≠ [] := by
  have item : s.settle.sts.conditions.getLsbD 29 = !s.sts.errors.isEmpty := conditionsNow_getLsbD s 29
  rw [item]
  simp

theorem answerReadError_empty {s : State} (h : s.sts.errors = []) :
    answerReadError s = accept s (.error .noError 0 0 0) := by
  rw [answerReadError, h]

theorem answerReadError_oldest {s : State} {e : ErrorEntry} {rest : List ErrorEntry} (h : s.sts.errors = e :: rest) :
    answerReadError s = accept { s with sts := { s.sts with errors := rest } }
      (.error e.code e.detail e.time rest.length) := by
  rw [answerReadError, h]

/-- Settles O48: an error queued by the room left, then READ_ERROR by whether an entry is held. -/
theorem errorQueueKeepsSixteen : Obligations.ErrorQueueKeepsSixteen := by
  refine ⟨fun s code detail => ⟨rfl, pushError_room _, ?_, ?_, pushError_length _, settle_errorPending _⟩,
    fun s h hp hlen => ⟨fun empty => ?_, fun e rest held => ⟨_, ?_, rfl, settle_errorPending _⟩⟩⟩
  · intro l x hq full other
    rw [hq] at full
    rw [State.queueError_sts, hq]
    exact pushError_overflows _ full other
  · intro l x hq full counter
    rw [hq] at full
    rw [State.queueError_sts, hq]
    exact pushError_counts _ full counter
  · exact request_accepted hp (lengthIs_eq hlen) (answerReadError_empty empty)
  · exact request_accepted hp (lengthIs_eq hlen) (answerReadError_oldest held)

/-! ### IDENTIFY, RESET_PART, READ_EVENTS and SET_EVENT_ENABLE (R158, R159, R176, R178) -/

/-- Settles O47, each request by its owner's answer. -/
theorem partAndEventRequests : Obligations.PartAndEventRequests := by
  intro s h hp a
  refine ⟨fun hlen => ⟨⟨a.identity, ?_, rfl, rfl, ?_, ?_, rfl, rfl, rfl, rfl⟩, ?_, ?_⟩, fun hlen mask => ?_⟩
  · exact request_accepted (owner := fun t => accept t (.identify t.identity)) hp (lengthIs_eq hlen) rfl
  · exact Nat.le_add_left 1 _
  · exact Config.revisionLessOne.isLt
  · exact request_accepted (owner := fun t => accept t .nothing) hp (lengthIs_eq hlen) rfl
  · exact request_accepted (owner := answerReadEvents) hp (lengthIs_eq hlen) rfl
  · exact request_accepted (owner := answerSetEventEnable mask) hp (lengthIs_eq hlen) rfl

/-! ### SAVE_PROFILE and its completion (R162, R163) -/

section
variable {s : State}

theorem answerSaveProfile_above {slot : Nat} (h : 3 < slot) : answerSaveProfile slot s = refuse s .badValue := by
  rw [answerSaveProfile, asIndex_none h]

theorem answerSaveProfile_busy {n : Fin 4} (h : s.prf.save ≠ none) : answerSaveProfile n.val s = refuse s .busy := by
  rw [answerSaveProfile, asIndex_val]
  exact if_pos (Option.isSome_iff_ne_none.2 h)

theorem answerSaveProfile_accepted {n : Fin 4} (h : s.prf.save = none) : answerSaveProfile n.val s =
    accept { s with prf := { s.prf with save := some ⟨n, s.snapshot⟩ } } .nothing := by
  rw [answerSaveProfile, asIndex_val]
  exact if_neg (by rw [h]; nofun)

theorem snapshot_port (s : State) (i : Fin 4) : s.snapshot.ports[i] = s.cams[i].port.config :=
  mapTable_get _ s.cams i.val i.isLt

theorem snapshot_meter (s : State) (i : Fin 4) : s.snapshot.meters[i] = s.cams[i].meter.config :=
  mapTable_get _ s.cams i.val i.isLt

theorem snapshot_entry (s : State) (i : Fin 16) : s.snapshot.table[i] = (s.sel.entries[i]).map Entry.config :=
  mapTable_get _ s.sel.entries i.val i.isLt

/-- A snapshot holds the meshes that are READY (R162). -/
theorem snapshot_mesh (s : State) (i : Fin 8) : s.snapshot.meshes[i] = match s.mesh.slots[i] with
    | .ready m => some m
    | _ => none := by
  have slot : s.snapshot.meshes[i] = (s.mesh.slots[i]).saved := mapTable_get _ s.mesh.slots i.val i.isLt
  rw [slot]
  cases s.mesh.slots[i] <;> rfl

theorem exec_profileSaveCompletion (hp : s.powered = true) {v : Save} (h : s.prf.save = some v) (verified : Bool) :
    exec (.profileSaveCompletion verified) s = .next (s.completeSave v verified).settle := by
  show execProfileSaveCompletion verified s = _
  rw [execProfileSaveCompletion, event_occurs _ hp (by rw [h]; rfl), h]

theorem exec_profileSaveCompletion_idle (h : s.prf.save = none) (verified : Bool) :
    exec (.profileSaveCompletion verified) s = .next s := by
  show execProfileSaveCompletion verified s = _
  exact event_idle _ _ (by rw [h]; rfl)

end

/-- Settles O49: the tests of SAVE_PROFILE in their order, the snapshot part by part, then the two completions. -/
theorem profileSavedAndVerified : Obligations.ProfileSavedAndVerified := by
  intro s h slot hp a
  refine ⟨fun hlen => ?_, fun v saving => ?_, exec_profileSaveCompletion_idle⟩
  · have length := lengthIs_eq hlen
    refine ⟨fun above => request_refused hp length (answerSaveProfile_above above), ?_, ?_⟩
    · rintro n rfl saving
      exact request_refused hp length (answerSaveProfile_busy saving)
    · rintro n rfl idle
      exact ⟨a.snapshot, request_accepted hp length (answerSaveProfile_accepted idle),
        fun i => ⟨snapshot_port a i, snapshot_meter a i⟩, snapshot_mesh a, rfl, snapshot_entry a, rfl, rfl, rfl, rfl, rfl⟩
  · exact ⟨exec_profileSaveCompletion hp saving true, exec_profileSaveCompletion hp saving false⟩

/-! ### The loss of power (R162, assumption 24) -/

section
variable {s : State}

theorem event_unpowered (hp : s.powered = false) (occurs : Bool) (effect : State → State) :
    event s occurs effect = .next s := by
  simp [event, hp]

theorem request_unpowered (hp : s.powered = false) (type : Byte) (h : Header) (lengthOk : Bool) (owner : State → Answer) :
    request type h lengthOk owner s = .next s := by
  simp [request, hp]

theorem exec_powerLoss (hp : s.powered = true) :
    exec .powerLoss s = .next { s with powered := false, prf := s.prf.cut } := by
  show execPowerLoss s = _
  rw [execPowerLoss, if_pos hp, cutSave_eq]

/-- Without power only the power's own command and the three that move a carrier or a pin change anything. -/
theorem exec_unpowered (hp : s.powered = false) (c : Instr) (power : ∀ a b, c ≠ .powerOnReset a b)
    (present : ∀ i, c ≠ .carrierPresent i) (lost : ∀ i, c ≠ .carrierLost i) (pin : ∀ n level, c ≠ .rawChange n level) :
    exec c s = .next s := by
  have off : ¬s.powered = true := by rw [hp]; nofun
  cases c <;> dsimp only [exec]
  case powerOnReset a b => exact absurd rfl (power a b)
  case carrierPresent i => exact absurd rfl (present i)
  case carrierLost i => exact absurd rfl (lost i)
  case rawChange n level => exact absurd rfl (pin n level)
  case frameStart | outputFrameStart | unknownType => exact if_neg fun h => off h.1
  case powerLoss | linkFraming | linkGap | linkCheck | signalUpdate => exact if_neg off
  case trainingWord | wordTimerExpiry | line | frameEnd | staleDeadlineExpiry | lostDeadlineExpiry | meshInactivityExpiry
      | settleTimerExpiry | holdTimerExpiry | debounceTimerExpiry | refreshTimerExpiry | speedTimerExpiry
      | releaseTimerExpiry | overrideExpiry | profileSaveCompletion | replyStart | replyEnd | noticeStart | noticeEnd
      | collision =>
    exact event_unpowered hp _ _
  case meshRows g slot row nodes =>
    rw [execMeshRows]
    split <;> exact request_unpowered hp _ _ _ _
  -- what is left are the requests of the catalogue
  all_goals exact request_unpowered hp _ _ _ _

end

/-- Settles O6: a save in progress is cut off, and without power the arms that act are those of the surroundings. -/
theorem powerLossCutsTheWrite : Obligations.PowerLossCutsTheWrite := by
  refine ⟨fun s hp => ⟨fun idle => ?_, fun v saving => ?_⟩, fun s hp => ?_⟩
  · rw [exec_powerLoss hp, ProfileStore.cut, idle]
  · rw [exec_powerLoss hp, ProfileStore.cut, saving]
  · have off : ¬s.powered = true := by rw [hp]; nofun
    exact ⟨fun i => ⟨if_neg off, if_neg off⟩, fun n level => if_neg off, exec_unpowered hp⟩

end Sys2Proof.Machine
end

section
/-! POWER_ON_RESET and the soft reset of RESET_PART: what the part starts from, what is reported, and what of the status unit, the
profile store and the link port a reset leaves (R162, R165, R166, R167, R173, R177, R178). -/

set_option Elab.async false

namespace Sys2Proof.Machine

/-! ### What a reset reports, and a snapshot right after it -/

section
variable (x : State) (fault : Bool)

/-- A PROFILE_FAULT at the start queues its error (R162, R165). -/
theorem restartStatus_queued : (x.restartStatus fault).sts.errors =
    if fault then pushError x.sts.errors ⟨.profileFault, 0, x.timeBase % 65536⟩ else x.sts.errors := by
  cases fault <;> rfl

theorem restartStatus_noticePending : (x.restartStatus fault).link.noticePending =
    (x.link.noticePending || ((x.restartStatus fault).sts.attn && !x.sts.attn)) := by
  cases fault <;> rfl

theorem restart_config (c : Cam) (config : PortConfig) (meter : MeterItems) (now : Nat) :
    (c.restart config meter now).port.config = config ∧ (c.restart config meter now).meter.config = meter := by
  unfold Cam.restart Port.examineCarrier
  refine ⟨?_, rfl⟩
  dsimp only
  split
  · split <;> rfl
  · rfl

/-- A snapshot taken right after a reset is the configuration that the part started from, with the enable mask in force. -/
theorem restartBlocks_snapshot (p : Profile) : (x.restartBlocks p).snapshot = { p with enableMask := x.sts.enable } := by
  have ports : mapTable (fun c => c.port.config) (x.restartBlocks p).cams = p.ports := mapTable_eq fun i => by
    rw [restartBlocks_cam]
    exact (restart_config _ _ _ _).1
  have meters : mapTable (fun c => c.meter.config) (x.restartBlocks p).cams = p.meters := mapTable_eq fun i => by
    rw [restartBlocks_cam]
    exact (restart_config _ _ _ _).2
  have table : mapTable (Option.map Entry.config) (x.restartBlocks p).sel.entries = p.table := mapTable_eq fun i => by
    rw [restartBlocks_entry, Option.map_map]
    cases p.table[i] <;> rfl
  have meshes : mapTable MeshSlot.saved (x.restartBlocks p).mesh.slots = p.meshes := loadedMeshes_saved p
  obtain ⟨-, defaultView, -⟩ := restartBlocks_choice x p
  have output : (x.restartBlocks p).disp.enable = p.outputEnable ∧ (x.restartBlocks p).disp.savedTiming = p.timing := by
    obtain ⟨enable, current, staged, -⟩ := restartedDisplay_common p.outputEnable p.timing x.clock x.screen
    refine ⟨enable, ?_⟩
    show (restartedDisplay p.outputEnable p.timing x.clock x.screen).staged.getD _ = _
    rw [staged]
    exact current
  unfold State.snapshot
  rw [ports, meters, table, meshes, defaultView, output.1, output.2]
  rfl

end

/-! ### What the part starts from, by what slot 0 holds (R165) -/

/-- A reset that began from `b` has left the part as `t`: it starts from the profile `p`, slot 0 is left as `slot0`, and a PROFILE_FAULT
is reported or not (R165). -/
structure State.StartsAs (b t : State) (p : Profile) (slot0 : ProfileSlot) (fault : Bool) : Prop where
  snapshot : t.snapshot = { p with enableMask := b.sts.enable }
  slot0 : t.prf.slots[0] = slot0
  errors : t.sts.errors = if fault then pushError b.sts.errors ⟨.profileFault, 0, b.timeBase % 65536⟩ else b.sts.errors
  faultEvent : fault = true → t.sts.events.getLsbD 26 = true

section
variable {s t b : State}

theorem resetFrom_snapshot (h : s.ResetFrom t b) : t.snapshot = { s.startProfile with enableMask := b.sts.enable } := by
  have blocks : t.snapshot = { (b.restartBlocks s.startProfile).snapshot with enableMask := t.sts.enable } :=
    (congrArg State.snapshot (resetFrom_blocks h) :)
  rw [blocks, restartBlocks_snapshot, resetFrom_enable h]

theorem resetFrom_startsAs (h : s.ResetFrom t b) {x : ProfileSlot} (found : s.prf.cut.slots[0] = x) {p : Profile}
    {corrupt fault : Bool} (choice : startConfiguration x = (p, corrupt, fault)) :
    b.StartsAs t p (if corrupt then .invalid else x) fault := by
  subst found
  have profile : s.startProfile = p := congrArg Prod.fst choice
  have marked : s.prf.startChoice.2.1 = corrupt := congrArg (fun c => c.2.1) choice
  have faulted : s.startFault = fault := congrArg (fun c => c.2.2) choice
  refine ⟨?_, ?_, ?_, fun hf => ?_⟩
  · rw [resetFrom_snapshot h, profile]
  · rw [resetFrom_prf h]
    cases corrupt with
    | true => exact started_slot0_corrupt _ marked
    | false => exact started_slot0_kept _ marked
  · rw [resetFrom_sts h, restartStatus_queued, faulted]
    rfl
  · exact (resetFrom_events h 26).2 (.inr (.inr ⟨faulted.trans hf, .inl rfl⟩))

end

theorem startConfiguration_intact {p : Profile} {check : BitVec 16} (passes : Config.profileCheck p = check) :
    startConfiguration (.valid p check) = (p, false, false) := by
  simp [startConfiguration, checkPasses, passes]

theorem startConfiguration_fails {p : Profile} {check : BitVec 16} (fails : ¬Config.profileCheck p = check) :
    startConfiguration (.valid p check) = (factoryProfile, true, true) := by
  simp [startConfiguration, checkPasses, fails]

/-! ### POWER_ON_RESET (R165, R166, R167, R177) -/

theorem timeBase_zero {s : State} (h : s.clock = 0) : s.timeBase = 0 := by
  simp [State.timeBase, h]

/-- After a power-on reset a notice is pending exactly when ATTN is asserted: ATTN has risen (R157, R167, R172). -/
theorem powerOn_link (s : State) (rate : Fin 4) : (s.powerOn rate).link =
    ⟨rate, huntReceiver, none, (s.powerOn rate).sts.attn, .idle, 0, zeroLinkCounters⟩ := by
  have pending : (s.powerOn rate).link.noticePending = (s.powerOn rate).sts.attn := by
    rw [powerOn_eq, State.started, restartStatus_noticePending]
    show (false || (_ && !false)) = _
    simp
  rw [← pending, powerOn_eq, State.started, restartStatus_link]
  rfl

/-- What a power-on reset starts the part from, the profile's enable mask included, and reports: the queue and the event set were
empty (R165, R166). -/
theorem coldStart_starts {s t : State} {rate : Fin 4} (h : s.ResetFrom t (s.coldStart rate)) {x : ProfileSlot}
    (found : s.prf.cut.slots[0] = x) {p : Profile} {corrupt fault : Bool}
    (choice : startConfiguration x = (p, corrupt, fault)) :
    t.snapshot = p ∧ t.prf.slots[0] = (if corrupt then .invalid else x) ∧
    t.sts.errors = (if fault then [⟨.profileFault, 0, 0⟩] else []) ∧ t.sts.events.getLsbD 26 = fault := by
  have start := resetFrom_startsAs h found choice
  subst found
  have mask : (s.coldStart rate).sts.enable = p.enableMask := congrArg (fun c => c.1.enableMask) choice
  have faulted : s.startFault = fault := congrArg (fun c => c.2.2) choice
  have empty : (s.coldStart rate).sts.errors = [] := rfl
  refine ⟨?_, start.slot0, ?_, Bool.eq_iff_iff.2 ((powerOn_events h 26).trans ?_)⟩
  · rw [start.snapshot, mask]
  · rw [start.errors, empty, timeBase_zero (s := s.coldStart rate) rfl]
    rfl
  · rw [faulted]
    simp

/-- Settles O3: the blocks start from what slot 0 gives, case by case, and the rest is the cold start's. -/
theorem powerOnChoosesConfiguration : Obligations.PowerOnChoosesConfiguration := by
  intro s x y found hfound
  have slot0 : s.prf.cut.slots[0] = found := (cut_slot0 s.prf).trans hfound.symm
  let rate := rateOfStraps x y
  have h : s.ResetFrom (s.powerOn rate) (s.coldStart rate) := powerOn_resetFrom rate
  have blocks := resetFrom_blocks h
  have link := powerOn_link s rate
  refine ⟨s.powerOn rate, rfl, (congrArg State.powered blocks :), (congrArg State.clock blocks :),
    timeBase_zero (congrArg State.clock blocks :), ?_, ?_, ?_, ?_, h.owed, h.tx, ?_, (powerOn_events h 31).2 (.inl rfl), ?_,
    fun v hv => resetFrom_saved h hv, fun n h0 hn => resetFrom_slot h h0 hn, ?_⟩
  · rw [resetFrom_prf h, started_save]
  · rw [resetFrom_sig h]
    rfl
  · rw [link]
    cases x <;> cases y <;> rfl
  · rw [link]
    rfl
  · rw [link]
    rfl
  · exact congrArg LinkPort.noticePending link
  · cases found with
    | valid p check =>
      dsimp only
      split
      next passes => exact coldStart_starts h slot0 (startConfiguration_intact passes)
      next fails => exact coldStart_starts h slot0 (startConfiguration_fails fails)
    | invalid => exact coldStart_starts h slot0 rfl
    | empty => exact coldStart_starts h slot0 rfl

/-! ### The soft reset of an accepted RESET_PART (R165, R166, R173, R177, R178) -/

section
variable (u : State)

/-- Of the link port a soft reset keeps the rate, the last stop bit and a pending notice (R165, R177). -/
theorem softReset_link : u.softReset.link = { u.link with
    rx := huntReceiver, owed := none, tx := .idle, counters := zeroLinkCounters
    noticePending := u.softReset.link.noticePending } := by
  rw [softReset_eq, State.started, restartStatus_link]
  rfl

theorem softReset_keepsNotice (h : u.link.noticePending = true) : u.softReset.link.noticePending = true := by
  rw [softReset_eq, State.started, restartStatus_noticePending]
  show (u.link.noticePending || _) = true
  rw [h, Bool.true_or]

theorem softReset_settled : u.softReset.settle = u.softReset := by
  rw [softReset_eq]
  exact restartStatus_settled _ _

end

/-- `u` is `s` when the reply of an accepted RESET_PART has ended or was dropped, right before the soft reset (R173, R178). -/
structure State.EndsReply (s u : State) : Prop where
  whole : u = { s with sts := u.sts, link := u.link }
  enable : u.sts.enable = s.sts.enable
  events : ∀ n, s.sts.events.getLsbD n = true → u.sts.events.getLsbD n = true
  rate : u.link.rate = s.link.rate
  noticePending : s.link.noticePending = true → u.link.noticePending = true

/-- `t` is `u` after a soft reset, but for what the line has carried since (R177, R178). -/
def State.SoftReset (u t : State) : Prop :=
  t = { u.softReset with link := { u.softReset.link with
    rx := t.link.rx, lastStop := t.link.lastStop, counters := t.link.counters } }

section
variable {s u t : State}

theorem State.SoftReset.now (u : State) : u.SoftReset u.softReset := rfl

theorem State.SoftReset.link (h : u.SoftReset t) : t.link.rate = u.link.rate ∧ t.link.owed = none ∧ t.link.tx = .idle ∧
    (u.link.noticePending = true → t.link.noticePending = true) := by
  have link : t.link = _ := congrArg State.link h
  rw [link, softReset_link]
  exact ⟨rfl, rfl, rfl, softReset_keepsNotice u⟩

theorem State.SoftReset.resetFrom (h : u.SoftReset t) : u.ResetFrom t u.warmStart := by
  obtain ⟨-, owed, tx, -⟩ := h.link
  refine ⟨rfl, rfl, rfl, ?_, owed, tx⟩
  rw [← softReset_eq]
  exact (congrArg (fun x : State => { x with link := t.link }) h :)

/-- The collision of the reply is reported before the soft reset (R173). -/
theorem collision_endsReply {r : Reply} (ho : s.link.owed = some r) (resets : r.resets = true) :
    ∃ u, s.controllerByte = u.softReset ∧ s.EndsReply u ∧
      u.sts.errors = pushError s.sts.errors ⟨.linkCollision, r.type.toNat, s.timeBase % 65536⟩ := by
  have he : s.link.engaged = true := by simp [LinkPort.engaged, ho]
  refine ⟨State.settle (State.queueError { s with link := { s.link with
    owed := none, tx := .idle, rx := huntReceiver
    counters := { s.link.counters with repliesDropped := bump s.link.counters.repliesDropped } } }
    .linkCollision r.type.toNat), ?_, ⟨rfl, rfl, fun n h => settle_keepsEvent h, rfl, fun h => settle_keepsNotice h⟩, rfl⟩
  rw [controllerByte_engaged he, State.collide, ho]
  dsimp only
  rw [State.afterReply, if_pos resets]

theorem State.EndsReply.blocks (ends : s.EndsReply u) :
    u.powered = s.powered ∧ u.clock = s.clock ∧ u.prf = s.prf :=
  ⟨(congrArg State.powered ends.whole :), (congrArg State.clock ends.whole :), (congrArg State.prf ends.whole :)⟩

/-- What a soft reset leaves of the clock, the status unit and the other profile slots (R162, R165, R166). -/
theorem State.EndsReply.softReset_keeps (ends : s.EndsReply u) (reset : u.SoftReset t) :
    t.powered = s.powered ∧ t.clock = s.clock ∧ t.sts.enable = s.sts.enable ∧
    (∀ n, s.sts.events.getLsbD n = true → t.sts.events.getLsbD n = true) ∧
    (∀ v, s.prf.save = some v → t.prf.slots[v.slot] = .invalid) ∧
    ∀ n : Fin 4, n ≠ 0 → (∀ v, s.prf.save = some v → v.slot ≠ n) → t.prf.slots[n] = s.prf.slots[n] := by
  have h := reset.resetFrom
  have blocks := resetFrom_blocks h
  obtain ⟨powered, clock, prf⟩ := ends.blocks
  refine ⟨(congrArg State.powered blocks :).trans powered, (congrArg State.clock blocks :).trans clock,
    (resetFrom_enable h).trans ends.enable,
    fun n hn => ?_, ?_, ?_⟩
  · have small : n < 32 := BitVec.lt_of_getLsbD hn
    exact (resetFrom_events h ⟨n, small⟩).2 (.inl (ends.events n hn))
  · rw [← prf]
    exact fun v hv => resetFrom_saved h hv
  · rw [← prf]
    exact fun n h0 hn => resetFrom_slot h h0 hn

/-- What a soft reset starts the part from and reports, as slot 0 was `x` (R165, R166). -/
theorem State.EndsReply.softReset_starts (ends : s.EndsReply u) (reset : u.SoftReset t) {x : ProfileSlot}
    (found : s.prf.cut.slots[0] = x) {p : Profile} {corrupt fault : Bool}
    (choice : startConfiguration x = (p, corrupt, fault)) :
    t.snapshot = { p with enableMask := s.sts.enable } ∧ t.prf.slots[0] = (if corrupt then .invalid else x) ∧
    (fault = true → t.sts.events.getLsbD 26 = true) ∧
    t.sts.errors =
      if fault then pushError u.sts.errors ⟨.profileFault, 0, s.timeBase % 65536⟩ else u.sts.errors := by
  obtain ⟨-, clock, prf⟩ := ends.blocks
  have time : u.warmStart.timeBase = s.timeBase := State.timeBase_of_clock _ _ clock
  have start := resetFrom_startsAs reset.resetFrom (by rw [prf]; exact found) choice
  refine ⟨?_, start.slot0, start.faultEvent, ?_⟩
  · rw [← ends.enable]
    exact start.snapshot
  · rw [← time]
    exact start.errors

end

/-- The end of the reply is an event without a report of its own (R171). -/
theorem replySent_endsReply (s : State) : s.EndsReply s.replySent :=
  ⟨rfl, rfl, fun _ h => h, rfl, fun h => h⟩

theorem exec_replyEnd_resets {s : State} {r : Reply} (hp : s.powered = true) (ho : s.link.owed = some r)
    (tx : s.link.tx = .reply) (resets : r.resets = true) : exec .replyEnd s = .next s.replySent.softReset := by
  rw [exec_replyEnd hp ho tx, State.afterReply, if_pos resets]
  exact congrArg Host.Outcome.next (softReset_settled _)

/-- A byte taken in HUNT begins a frame when it is START without a stop-bit fault (R169). -/
theorem takeByte_hunt (b : Byte) (stopFault : Bool) (now : Nat) : (huntReceiver.takeByte b stopFault now).1 =
    if stopFault = false ∧ b = 0xC5#8 then ⟨.length, [0xC5#8], none⟩ else ⟨.hunt, [], none⟩ := by
  by_cases h : stopFault = false ∧ b = 0xC5#8
  · obtain ⟨rfl, rfl⟩ := h
    rw [takeByte_start rfl]
    rfl
  · have stray : b ≠ 0xC5#8 ∨ stopFault = true := by
      cases stopFault with
      | true => exact .inr rfl
      | false => exact .inl fun hb => h ⟨rfl, hb⟩
    rw [if_neg h, takeByte_stray rfl stray]
    rfl

/-- The COLLISION's byte is taken by the reset part, in HUNT (R173). -/
theorem exec_collision_resets {s u : State} {r : Reply} (hp : s.powered = true) (ho : s.link.owed = some r)
    (byte : s.controllerByte = u.softReset) (b : Byte) (stopFault : Bool) :
    exec (.collision b stopFault) s = .next { u.softReset with link := { u.softReset.link with
      rx := (huntReceiver.takeByte b stopFault u.softReset.clock).1, lastStop := u.softReset.clock } } := by
  have engaged : s.link.engaged = true := by simp [LinkPort.engaged, ho]
  have hunting : u.softReset.link.rx = huntReceiver := by rw [softReset_link]
  have taken : exec (.collision b stopFault) s = .next (s.receiveByte b stopFault).1.settle := by
    show execCollision b stopFault s = _
    exact event_occurs _ hp engaged
  rw [taken, State.receiveByte, byte]
  dsimp only
  rw [hunting, ← softReset_settled u, settle_receiver]

/-- Settles O5: each of the three events ends the reply and then resets softly; what a soft reset leaves is the same for all. -/
theorem softResetAtReplyEnd : Obligations.SoftResetAtReplyEnd := by
  intro s r found hp ho type code hfound leaves collided hunt
  have slot0 : s.prf.cut.slots[0] = found := (cut_slot0 s.prf).trans hfound.symm
  have resets : r.resets = true := (resets_iff r).2 ⟨type, code⟩
  have left {u t : State} (ends : s.EndsReply u) (reset : u.SoftReset t) : leaves t u.sts.errors := by
    obtain ⟨powered, clock, enable, events, saved, others⟩ := ends.softReset_keeps reset
    obtain ⟨rate, owed, tx, notice⟩ := reset.link
    have h := reset.resetFrom
    refine ⟨powered.trans hp, clock, rate.trans ends.rate, owed, tx, fun hn => notice (ends.noticePending hn), enable,
      (resetFrom_events h 31).2 (.inr (.inl rfl)), events, ?_, saved, others, ?_⟩
    · rw [resetFrom_prf h, started_save]
    · cases found with
      | valid p check =>
        dsimp only
        split
        next passes =>
          obtain ⟨snapshot, slot, -, errors⟩ := ends.softReset_starts reset slot0 (startConfiguration_intact passes)
          exact ⟨snapshot, slot, errors⟩
        next fails =>
          obtain ⟨snapshot, slot, event, errors⟩ := ends.softReset_starts reset slot0 (startConfiguration_fails fails)
          exact ⟨snapshot, slot, event rfl, errors⟩
      | invalid =>
        obtain ⟨snapshot, slot, event, errors⟩ := ends.softReset_starts reset slot0 rfl
        exact ⟨snapshot, slot, event rfl, errors⟩
      | empty =>
        obtain ⟨snapshot, slot, -, errors⟩ := ends.softReset_starts reset slot0 rfl
        exact ⟨snapshot, slot, errors⟩
  refine ⟨fun tx => ⟨s.replySent.softReset, exec_replyEnd_resets hp ho tx resets,
    left (u := s.replySent) (replySent_endsReply s) (State.SoftReset.now _), ?_, ?_, ?_⟩, ?_⟩
  · rw [softReset_link]
    rfl
  · rw [softReset_link]
    rfl
  · rw [softReset_link]
    rfl
  · obtain ⟨u, byte, ends, errors⟩ := collision_endsReply ho resets
    have clock : u.softReset.clock = s.clock := (ends.softReset_keeps (.now u)).2.1
    obtain ⟨-, -, counters⟩ := softReset_rest u
    have reported {t : State} (reset : u.SoftReset t) : leaves t collided := by
      have collision : collided = u.sts.errors := by rw [errors, type]; rfl
      rw [collision]
      exact left ends reset
    have second : s.frameArrives = u.softReset.frameTaken := by
      rw [frameArrives_eq, byte, softReset_awake]
      rfl
    rw [second]
    refine ⟨fun b f => ⟨_, exec_collision_resets hp ho byte b f, reported rfl, ?_, counters, clock⟩, reported rfl,
      softReset_awake u, rfl, ?_, clock⟩
    · exact takeByte_hunt b f _
    · show LinkCounters.mk (bump u.softReset.link.counters.framesReceived) _ _ _ _ _ = _
      rw [counters]
      rfl

end Sys2Proof.Machine
end

section
/-! Frames that are refused before an owner sees them: an unknown type, and a payload length that the catalogue does not allow
(R170 steps 2 and 3, R175). -/

namespace Sys2Proof.Machine

/-! ### Lengths that the catalogue does not allow (R175) -/

theorem lengthIs_false {h : Header} {n : Nat} (other : h.len ≠ n) : lengthIs h n = false :=
  decide_eq_false other

theorem lengthCounts_false {h : Header} {base step count items : Nat}
    (other : count ≠ items ∨ h.len ≠ base + step * items) : lengthCounts h base step count items = false := by
  rcases other with miscounted | wrong
  · simp [lengthCounts, miscounted]
  · simp [lengthCounts, wrong]

/-- Only whole nodes of four bytes are laid out (R174). -/
theorem nodesOf_length {bytes : List Byte} {nodes : List Node} (h : nodesOf bytes = some nodes) :
    bytes.length = 4 * nodes.length := by
  induction bytes using nodesOf.induct generalizing nodes with
  | case1 =>
    obtain rfl := Option.some.inj h
    rfl
  | case2 u1 u0 v1 v0 rest ih =>
    obtain ⟨others, laid, rfl⟩ := Option.map_eq_some_iff.1 h
    have := ih laid
    simp only [List.length_cons]
    omega
  | case3 bytes empty whole =>
    rw [nodesOf.eq_3 bytes empty whole] at h
    cases h

/-- A MESH_ROWS payload that is not the two bytes and whole nodes of a frame has no layout (R174, R175). -/
theorem meshRows_noLayout {len : Nat} {slot row : Byte} {nodes : List Byte}
    (wrong : len ≠ 2 + nodes.length ∨ ¬4 ∣ nodes.length ∨ 248 < len) :
    payloadOf len (slot :: row :: nodes) meshRowsOf = none := by
  by_contra laid
  obtain ⟨fields, laid⟩ := Option.ne_none_iff_exists'.1 laid
  obtain ⟨carried, laid⟩ := Option.ite_none_right_eq_some.1 laid
  obtain ⟨fits, laid⟩ := Option.ite_none_right_eq_some.1 laid
  obtain ⟨items, laid, -⟩ := Option.map_eq_some_iff.1 laid
  have whole := nodesOf_length laid
  simp only [List.length_cons] at carried
  omega

/-! ### The refusals (R170) -/

section
variable {s : State} {h : Header} (hp : s.powered = true)
include hp

/-- A request of a wrong length never reaches its owner (R170 step 3). -/
theorem request_badLength {type : Byte} {lengthOk : Bool} {owner : State → Answer} (wrong : lengthOk = false) :
    request type h lengthOk owner s = .next (s.frameArrives.answered type h .badLength .nothing) := by
  rw [request, if_pos hp, wrong]
  rfl

theorem exec_unknownType {type : Byte} (unknown : type ∉ requestTypes) :
    exec (.unknownType type h) s = .next (s.frameArrives.answered type h .unknownType .nothing) := by
  show execUnknownType type h s = _
  rw [execUnknownType, if_pos ⟨hp, unknown⟩]
  rfl

theorem exec_meshRows_badLength {slot row : Byte} {nodes : List Byte}
    (wrong : h.len ≠ 2 + nodes.length ∨ ¬4 ∣ nodes.length ∨ 248 < h.len) :
    exec (.meshRows h slot row nodes) s = .next (s.frameArrives.answered 0x21#8 h .badLength .nothing) := by
  show execMeshRows h slot row nodes s = _
  rw [execMeshRows, meshRows_noLayout wrong]
  exact request_badLength hp rfl

end

/-- Settles O10: every request tests its own length first, and a wrong one is refused in the state its frame's arrival left. -/
theorem unknownOrWrongLengthRefused : Obligations.UnknownOrWrongLengthRefused := by
  intro s h hp a refused
  have wrong {type : Byte} {n : Nat} {owner : State → Answer} (other : h.len ≠ n) :
      request type h (lengthIs h n) owner s = refused type := request_badLength hp (lengthIs_false other)
  have miscounted {type : Byte} {base step count items : Nat} {owner : State → Answer}
      (other : count ≠ items ∨ h.len ≠ base + step * items) :
      request type h (lengthCounts h base step count items) owner s = refused type :=
    request_badLength hp (lengthCounts_false other)
  exact ⟨fun type unknown => exec_unknownType hp unknown,
    fun other => ⟨wrong (owner := fun t => accept t (.identify t.identity)) other,
      wrong (owner := fun t => accept t .nothing) other, wrong other,
      wrong (owner := fun t => accept t (.signals t.sig.report)) other, wrong other, wrong other, wrong other, wrong other,
      wrong other, wrong (owner := fun t => accept t (.conditions t.conditionsReport)) other, wrong other, wrong other⟩,
    fun other n => ⟨wrong other, wrong other, wrong other, wrong other, wrong other, wrong other, wrong other, wrong other,
      wrong other, wrong other, wrong other, wrong other, wrong other⟩,
    fun other _ _ => wrong other,
    fun other _ _ => wrong other,
    fun other _ _ _ _ => ⟨wrong other, wrong other⟩,
    fun other _ _ _ => wrong other,
    fun other _ => wrong other,
    fun other _ => wrong other,
    fun other _ => wrong other,
    fun _ _ _ other => exec_meshRows_badLength hp other,
    fun _ _ _ other => miscounted other,
    fun _ _ _ other => miscounted other,
    fun _ _ other => miscounted other⟩

end Sys2Proof.Machine
end

section
/-! Reception and its faults, and the bytes that collide (R168, R169, R173). -/

namespace Sys2Proof.Machine

/-! ### The parts of a frame (R168, R169) -/

/-- The bytes `rest` after the length byte `len`, of a frame that is not complete. -/
def InFrame (len : Byte) (rest : List Byte) : Prop := 2 ≤ len.toNat ∧ len.toNat ≤ 250 ∧ rest.length < 2 + len.toNat

/-- A receiver that has kept `bytes` of a frame (R169). -/
inductive Receiver.HasKept : Receiver → List Byte → Prop
  | nothing : Receiver.HasKept huntReceiver []
  | start : Receiver.HasKept ⟨.length, [0xC5#8], none⟩ [0xC5#8]
  | within {len : Byte} {rest : List Byte} (gap : Nat) :
    InFrame len rest → Receiver.HasKept (withinFrame len rest gap) (0xC5#8 :: len :: rest)

theorem hasKept_iff {rx : Receiver} {kept : List Byte} : rx.HasKept kept ↔
    (kept = [] ∧ rx = huntReceiver) ∨ (kept = [0xC5#8] ∧ rx = ⟨.length, [0xC5#8], none⟩) ∨
    ∃ len rest gap, kept = 0xC5#8 :: len :: rest ∧ InFrame len rest ∧ rx = withinFrame len rest gap := by
  constructor
  · rintro (- | - | ⟨gap, inFrame⟩)
    · exact .inl ⟨rfl, rfl⟩
    · exact .inr (.inl ⟨rfl, rfl⟩)
    · exact .inr (.inr ⟨_, _, gap, rfl, inFrame, rfl⟩)
  · rintro (⟨rfl, rfl⟩ | ⟨rfl, rfl⟩ | ⟨len, rest, gap, rfl, inFrame, rfl⟩)
    · exact .nothing
    · exact .start
    · exact .within gap inFrame

/-- The line has brought bytes to the receiver, the last stop bit at `stop` (R169, R172). -/
def State.heard (s : State) (rx : Receiver) (stop : Nat) : State :=
  { s with link := { s.link with rx := rx, lastStop := stop } }

/-- A frame discarded at the instant `now`, reported, and the event's end (R169). -/
def State.discarded (s : State) (now stop : Nat) (code : ErrorCode) (detail : Nat) : State :=
  State.settle { s with
    clock := now
    sts := { s.sts with errors := pushError s.sts.errors ⟨code, detail, now / 300 % 4294967296 % 65536⟩ }
    link := { s.link with
      rx := huntReceiver, lastStop := stop
      counters := { s.link.counters with framesDiscarded := min (s.link.counters.framesDiscarded + 1) 4294967295 } } }

/-! ### The last byte of a frame, and the bytes that make none (R169) -/

theorem takeByte_startFault {now : Nat} {b : Byte} :
    Receiver.takeByte ⟨.length, [0xC5#8], none⟩ b true now = (huntReceiver, .framingFault 1) := rfl

theorem takeByte_badLength {now : Nat} {b : Byte} (bad : b.toNat < 2 ∨ 250 < b.toNat) :
    Receiver.takeByte ⟨.length, [0xC5#8], none⟩ b false now = (huntReceiver, .framingFault 0) := by
  have out : within b.toNat 2 250 = false := by
    simp only [within, Bool.and_eq_false_iff, decide_eq_false_iff_not]
    omega
  simp [Receiver.takeByte, out]

/-- Two bytes are those of a 16-bit value exactly when they spell it, high byte first. -/
theorem bytesOfWord_eq_iff (w : BitVec 16) (hi lo : Byte) :
    bytesOfWord w = [hi, lo] ↔ hi.toNat * 256 + lo.toNat = w.toNat := by
  obtain ⟨a, b, bytes, value⟩ := bytesOfWord_value w
  have := lo.isLt
  have := b.isLt
  rw [bytes, ← value, List.cons.injEq, List.cons.injEq, ← BitVec.toNat_inj, ← BitVec.toNat_inj]
  constructor
  · rintro ⟨ha, hb, -⟩
    rw [ha, hb]
  · intro spelt
    exact ⟨by omega, by omega, rfl⟩

/-- The bytes of a frame from its LEN to the end of its PAYLOAD are the ones checked (R168). -/
theorem checkMatches_iff (len type tag hi lo : Byte) (payload : List Byte) :
    checkMatches (0xC5#8 :: len :: type :: tag :: payload ++ [hi, lo]) = true ↔
      hi.toNat * 256 + lo.toNat = (crc16 (len :: type :: tag :: payload)).toNat := by
  have covered : checkedBytes (0xC5#8 :: (len :: type :: tag :: payload) ++ [hi, lo]) = len :: type :: tag :: payload := by
    simp [checkedBytes]
  have length : (0xC5#8 :: (len :: type :: tag :: payload) ++ [hi, lo]).length - 2 = payload.length + 4 := by simp
  have check : (0xC5#8 :: (len :: type :: tag :: payload) ++ [hi, lo]).drop (payload.length + 4) = [hi, lo] := by
    simp
  rw [← bytesOfWord_eq_iff, checkMatches, decide_eq_true_iff, length, covered, check]

/-- The last byte of a frame ends it, and its CHECK is judged (R169). -/
theorem takeByte_last {len type tag hi lo : Byte} {payload : List Byte} {gap now : Nat}
    (whole : payload.length + 2 = len.toNat) :
    (withinFrame len (type :: tag :: payload ++ [hi]) gap).takeByte lo false now = (huntReceiver,
      if hi.toNat * 256 + lo.toNat = (crc16 (len :: type :: tag :: payload)).toNat then .validFrame else .checkFault type) := by
  have checking : withinFrame len (type :: tag :: payload ++ [hi]) gap =
      ⟨.check, 0xC5#8 :: len :: type :: tag :: payload ++ [hi], some gap⟩ := by
    rw [withinFrame, if_neg (by simp; omega)]
    rfl
  have bytes : 0xC5#8 :: len :: type :: tag :: payload ++ [hi] ++ [lo] =
      0xC5#8 :: len :: type :: tag :: payload ++ [hi, lo] := by simp
  rw [checking]
  unfold Receiver.takeByte
  dsimp only
  rw [bytes, if_neg (by simp; omega)]
  congr 1
  simp only [checkMatches_iff]
  rfl

/-- In HUNT no byte leads to an event (R169). -/
theorem takeByte_hunt_quiet (b : Byte) (stopFault : Bool) (now : Nat) :
    (huntReceiver.takeByte b stopFault now).2 = .quiet := by
  cases stopFault with
  | true => rfl
  | false =>
    show (if b = startByte then _ else _ : Receiver × RxEvent).2 = _
    split <;> rfl

/-! ### A run of bytes (R169) -/

section
variable {s : State} (idle : s.link.engaged = false)
include idle

theorem receiveByte_heard (b : Byte) (stopFault : Bool) : s.receiveByte b stopFault =
    (s.heard (s.link.rx.takeByte b stopFault s.clock).1 s.clock, (s.link.rx.takeByte b stopFault s.clock).2) :=
  receiveByte_idle idle

/-- A byte that leads to nothing, and then the others. -/
theorem receiveQuiet_cons {b : Byte} {more : List Byte} {rx : Receiver}
    (quiet : s.link.rx.takeByte b false s.clock = (rx, .quiet)) :
    s.receiveQuiet (b :: more) = (s.heard rx s.clock).receiveQuiet more := by
  rw [State.receiveQuiet, receiveByte_heard idle, quiet]

/-- A byte after bytes that led to nothing is taken as they left the receiver. -/
theorem receiveLast_heard {rx after : Receiver} {stop : Nat} {more : List Byte} {last : Byte} {stopFault : Bool} {e : RxEvent}
    (quiet : s.receiveQuiet more = some (s.heard rx stop)) (taken : rx.takeByte last stopFault s.clock = (after, e)) :
    s.receiveLast more last stopFault = some (s.heard after s.clock, e) := by
  rw [State.receiveLast, quiet, Option.map_some, receiveByte_heard (s := s.heard rx stop) idle]
  dsimp only [State.heard]
  rw [taken]

/-- Bytes that carry a frame on restart its gap timer; without one nothing changes (R169). -/
theorem receiveQuiet_inFrame {len : Byte} {rest more : List Byte} {gap : Nat} (hrx : s.link.rx = withinFrame len rest gap)
    (inFrame : InFrame len (rest ++ more)) :
    s.receiveQuiet more = some (s.heard (withinFrame len (rest ++ more) (if more = [] then gap else s.clock + 600))
      (if more = [] then s.link.lastStop else s.clock)) := by
  obtain ⟨-, -, short⟩ := inFrame
  by_cases noMore : more = []
  · subst noMore
    rw [if_pos rfl, if_pos rfl, List.append_nil, ← hrx]
    rfl
  · rw [if_neg noMore, if_neg noMore]
    exact receiveQuiet_within idle hrx short noMore

/-- The length and the bytes after it, when the START byte has arrived (R169). -/
theorem receiveQuiet_length {len : Byte} {rest : List Byte} (hrx : s.link.rx = ⟨.length, [0xC5#8], none⟩)
    (inFrame : InFrame len rest) :
    s.receiveQuiet (len :: rest) = some (s.heard (withinFrame len rest (s.clock + 600)) s.clock) := by
  have kept := takeByte_length (now := s.clock) ⟨inFrame.1, inFrame.2.1⟩
  rw [← hrx] at kept
  rw [receiveQuiet_cons idle kept,
    receiveQuiet_inFrame (s := s.heard (withinFrame len [] (s.clock + 600)) s.clock) idle rfl inFrame]
  simp [State.heard]

/-- A START byte in HUNT, and then the others (R169). -/
theorem receiveQuiet_startByte {more : List Byte} (hrx : s.link.rx = huntReceiver) :
    s.receiveQuiet (0xC5#8 :: more) = (s.heard ⟨.length, [0xC5#8], none⟩ s.clock).receiveQuiet more :=
  receiveQuiet_cons idle (takeByte_start (by rw [hrx]; rfl))

variable {kept more : List Byte} (keeps : s.link.rx.HasKept kept)
include keeps

/-- With its START byte alone arrived, the receiver waits for a frame's length (R169). -/
theorem receiveQuiet_start (bytes : kept ++ more = [0xC5#8]) :
    ∃ stop, s.receiveQuiet more = some (s.heard ⟨.length, [0xC5#8], none⟩ stop) := by
  generalize hrx : s.link.rx = rx at keeps
  cases keeps with
  | nothing =>
    obtain rfl : more = [0xC5#8] := bytes
    exact ⟨s.clock, receiveQuiet_startByte idle hrx⟩
  | start =>
    obtain rfl : more = [] := List.append_right_eq_self.1 bytes
    exact ⟨s.link.lastStop, by rw [← hrx]; rfl⟩
  | within => cases bytes

/-- With the bytes `rest` of a frame arrived after its length, the receiver stands within the frame (R169). -/
theorem receiveQuiet_frame {len : Byte} {rest : List Byte} (bytes : kept ++ more = 0xC5#8 :: len :: rest)
    (inFrame : InFrame len rest) :
    ∃ gap stop, s.receiveQuiet more = some (s.heard (withinFrame len rest gap) stop) ∧
      (more ≠ [] → gap = s.clock + 600 ∧ stop = s.clock) := by
  generalize hrx : s.link.rx = rx at keeps
  cases keeps with
  | nothing =>
    obtain rfl : more = 0xC5#8 :: len :: rest := bytes
    refine ⟨_, _, ?_, fun _ => ⟨rfl, rfl⟩⟩
    rw [receiveQuiet_startByte idle hrx]
    exact receiveQuiet_length (s := s.heard _ s.clock) idle rfl inFrame
  | start =>
    obtain rfl : more = len :: rest := List.cons.inj bytes |>.2
    exact ⟨_, _, receiveQuiet_length idle hrx inFrame, fun _ => ⟨rfl, rfl⟩⟩
  | within gap =>
    obtain ⟨rfl, rfl⟩ := List.cons.inj (List.cons.inj bytes).2
    exact ⟨_, _, receiveQuiet_inFrame idle hrx inFrame, fun begun => ⟨if_neg begun, if_neg begun⟩⟩

end

/-! ### What the reception's three commands make of the bytes (R169, assumption 8) -/

/-- The bytes of a LINK_CHECK, taken apart into its last one and those before it. -/
theorem receiveLast_concat (s : State) (bytes : List Byte) (last : Byte) :
    ((bytes ++ [last]).getLast?.bind fun b => s.receiveLast (bytes ++ [last]).dropLast b false) =
      s.receiveLast bytes last false := by
  rw [List.getLast?_concat, List.dropLast_concat, Option.bind_some]

section
variable {s t : State} (hp : s.powered = true) {bytes : List Byte} {last : Byte} {stopFault : Bool}
include hp

theorem exec_linkFraming_fault {detail : Nat}
    (h : s.receiveLast bytes last stopFault = some (s.heard huntReceiver s.clock, .framingFault detail)) :
    exec (.linkFraming bytes last stopFault) s = .next (s.discarded s.clock s.clock .linkFraming detail) := by
  show execLinkFraming bytes last stopFault s = _
  rw [execLinkFraming, if_pos hp, h]
  rfl

theorem exec_linkFraming_quiet (h : s.receiveLast bytes last stopFault = some (t, .quiet)) :
    exec (.linkFraming bytes last stopFault) s = .next t.settle := by
  show execLinkFraming bytes last stopFault s = _
  rw [execLinkFraming, if_pos hp, h]

theorem exec_linkCheck_fault {type : Byte}
    (h : s.receiveLast bytes last false = some (s.heard huntReceiver s.clock, .checkFault type)) :
    exec (.linkCheck (bytes ++ [last])) s = .next (s.discarded s.clock s.clock .linkCheck type.toNat) := by
  show execLinkCheck (bytes ++ [last]) s = _
  rw [execLinkCheck, if_pos hp, receiveLast_concat, h]
  rfl

theorem exec_linkCheck_quiet (h : s.receiveLast bytes last false = some (t, .quiet)) :
    exec (.linkCheck (bytes ++ [last])) s = .next t.settle := by
  show execLinkCheck (bytes ++ [last]) s = _
  rw [execLinkCheck, if_pos hp, receiveLast_concat, h]

theorem exec_linkCheck_valid (h : s.receiveLast bytes last false = some (t, .validFrame)) :
    exec (.linkCheck (bytes ++ [last])) s = .next s := by
  show execLinkCheck (bytes ++ [last]) s = _
  rw [execLinkCheck, if_pos hp, receiveLast_concat, h]

/-- The gap timer runs within a frame, and its expiry discards the frame (R169, assumption 11). -/
theorem exec_linkGap_frame {len : Byte} {rest : List Byte} {gap stop : Nat}
    (h : s.receiveQuiet bytes = some (s.heard (withinFrame len rest gap) stop)) : exec (.linkGap bytes) s =
      .next (s.discarded (max s.clock gap) (gap - 600) .linkGap (min (2 + rest.length) 255)) := by
  show execLinkGap bytes s = _
  rw [execLinkGap, if_pos hp, h, Nat.add_comm 2]
  rfl

theorem exec_linkGap_stopped (h : s.link.rx.gapTimer = none) : exec (.linkGap []) s = .next s := by
  show execLinkGap [] s = _
  rw [execLinkGap, if_pos hp, State.receiveQuiet]
  dsimp only
  rw [h]
  rfl

end

/-! ### A frame received with nothing owed or sent (R169) -/

section
variable {s : State} (hp : s.powered = true) (idle : s.link.engaged = false)
include hp idle

/-- A byte in HUNT is kept when it is START without a stop-bit fault; neither is an error (R169). -/
theorem exec_linkFraming_hunt (hrx : s.link.rx = huntReceiver) (b : Byte) (stopFault : Bool) :
    exec (.linkFraming [] b stopFault) s = .next (State.settle (s.heard
      (if stopFault = false ∧ b = 0xC5#8 then ⟨.length, [0xC5#8], none⟩ else huntReceiver) s.clock)) := by
  have taken : huntReceiver.takeByte b stopFault s.clock =
      (if stopFault = false ∧ b = 0xC5#8 then ⟨.length, [0xC5#8], none⟩ else huntReceiver, .quiet) :=
    Prod.ext (takeByte_hunt b stopFault _) (takeByte_hunt_quiet b stopFault _)
  exact exec_linkFraming_quiet hp (receiveLast_heard idle (stop := s.link.lastStop) (by rw [← hrx]; rfl) taken)

variable {kept more : List Byte} (keeps : s.link.rx.HasKept kept)
include keeps

/-- The byte after START: a stop-bit fault or a bad LEN discards the frame, a LEN from 2 to 250 is kept (R169). -/
theorem length_received (bytes : kept ++ more = [0xC5#8]) (last : Byte) :
    exec (.linkFraming more last true) s = .next (s.discarded s.clock s.clock .linkFraming 1) ∧
    (last.toNat < 2 ∨ 250 < last.toNat →
      exec (.linkFraming more last false) s = .next (s.discarded s.clock s.clock .linkFraming 0)) ∧
    (2 ≤ last.toNat → last.toNat ≤ 250 → exec (.linkFraming more last false) s =
      .next (s.heard (withinFrame last [] (s.clock + 600)) s.clock).settle) := by
  obtain ⟨stop, quiet⟩ := receiveQuiet_start idle keeps bytes
  exact ⟨exec_linkFraming_fault hp (receiveLast_heard idle quiet takeByte_startFault),
    fun bad => exec_linkFraming_fault hp (receiveLast_heard idle quiet (takeByte_badLength bad)),
    fun low high => exec_linkFraming_quiet hp (receiveLast_heard idle quiet (takeByte_length ⟨low, high⟩))⟩

section
variable {len : Byte} {rest : List Byte} (bytes : kept ++ more = 0xC5#8 :: len :: rest) (inFrame : InFrame len rest)
include bytes inFrame

/-- A stop-bit fault within a frame discards it, with the number of bytes received before it (R169). -/
theorem stopFault_received (last : Byte) : exec (.linkFraming more last true) s =
    .next (s.discarded s.clock s.clock .linkFraming (min (2 + rest.length) 255)) := by
  obtain ⟨gap, stop, quiet, -⟩ := receiveQuiet_frame idle keeps bytes inFrame
  exact exec_linkFraming_fault hp (receiveLast_heard idle quiet takeByte_stopFault)

/-- A byte that carries the frame on is kept, whichever command brings it (R169, assumption 8). -/
theorem nextByte_received (last : Byte) (more_follows : rest.length + 1 < 2 + len.toNat) :
    exec (.linkFraming more last false) s =
      .next (s.heard (withinFrame len (rest ++ [last]) (s.clock + 600)) s.clock).settle ∧
    exec (.linkCheck (more ++ [last])) s =
      .next (s.heard (withinFrame len (rest ++ [last]) (s.clock + 600)) s.clock).settle := by
  obtain ⟨gap, stop, quiet, -⟩ := receiveQuiet_frame idle keeps bytes inFrame
  have taken := receiveLast_heard idle quiet (takeByte_within (b := last) more_follows)
  exact ⟨exec_linkFraming_quiet hp taken, exec_linkCheck_quiet hp taken⟩

/-- The gap timer that the last of the bytes started expires (R169). -/
theorem gap_received (begun : more ≠ []) : exec (.linkGap more) s =
    .next (s.discarded (s.clock + 600) s.clock .linkGap (min (2 + rest.length) 255)) := by
  obtain ⟨gap, stop, quiet, restarted⟩ := receiveQuiet_frame idle keeps bytes inFrame
  obtain ⟨rfl, rfl⟩ := restarted begun
  rw [exec_linkGap_frame hp quiet, Nat.max_eq_right (Nat.le_add_right _ _), Nat.add_sub_cancel]

end

/-- The last byte of a frame: a wrong CHECK discards it, a frame that is valid is no LINK_CHECK (R169, assumption 8). -/
theorem check_received {len type tag hi lo : Byte} {payload : List Byte}
    (bytes : kept ++ more = 0xC5#8 :: len :: type :: tag :: payload ++ [hi, lo]) (begun : more ≠ [])
    (low : 2 ≤ len.toNat) (high : len.toNat ≤ 250) (whole : payload.length + 2 = len.toNat) :
    (hi.toNat * 256 + lo.toNat ≠ (crc16 (len :: type :: tag :: payload)).toNat →
      exec (.linkCheck more) s = .next (s.discarded s.clock s.clock .linkCheck type.toNat)) ∧
    (hi.toNat * 256 + lo.toNat = (crc16 (len :: type :: tag :: payload)).toNat →
      exec (.linkCheck more) s = .next s) := by
  obtain ⟨before, last, rfl⟩ := (List.eq_nil_or_concat' more).resolve_left begun
  have split : (kept ++ before) ++ [last] = (0xC5#8 :: len :: (type :: tag :: payload ++ [hi])) ++ [lo] := by
    rw [List.append_assoc, bytes]
    simp
  obtain ⟨earlier, same⟩ := List.append_inj' split rfl
  obtain rfl : last = lo := (List.cons.inj same).1
  have inFrame : InFrame len (type :: tag :: payload ++ [hi]) := ⟨low, high, by simp; omega⟩
  obtain ⟨gap, stop, quiet, -⟩ := receiveQuiet_frame idle keeps earlier inFrame
  have judged := receiveLast_heard idle quiet (takeByte_last (lo := last) whole)
  refine ⟨fun wrong => ?_, fun right => ?_⟩
  · rw [if_neg wrong] at judged
    exact exec_linkCheck_fault hp judged
  · rw [if_pos right] at judged
    exact exec_linkCheck_valid hp judged

end

/-! ### Collisions (R173) -/

/-- A collision leaves the part at the end of an event, hunting, with its supply as it was. -/
theorem collide_settles (s : State) :
    ∃ u : State, s.collide = u.settle ∧ u.link.rx = huntReceiver ∧ u.powered = s.powered := by
  unfold State.collide
  split
  · dsimp only
    rw [State.afterReply]
    split
    · refine ⟨_, (softReset_settled _).symm, by rw [softReset_link], ?_⟩
      exact (congrArg State.powered (resetFrom_blocks (State.SoftReset.now _).resetFrom) :)
    · exact ⟨_, rfl, rfl, rfl⟩
  · exact ⟨_, rfl, rfl, rfl⟩

section
variable {s t : State} {b : Byte}

/-- After the colliding byte `b` of `s` the bytes that follow reach `t`, which an event has left so (R173, assumption 9). -/
structure State.CollidesInto (s : State) (b : Byte) (stopFault : Bool) (t : State) : Prop where
  byte : s.receiveByte b stopFault = (t, .quiet)
  powered : t.powered = s.powered
  settled : t.settle = t

/-- The colliding byte is taken in HUNT, and the status unit has nothing left to do. -/
theorem collidesInto (engaged : s.link.engaged = true) (b : Byte) (stopFault : Bool) :
    s.CollidesInto b stopFault (s.collide.heard (huntReceiver.takeByte b stopFault s.collide.clock).1 s.collide.clock) := by
  obtain ⟨u, collides, hunting, powered⟩ := collide_settles s
  have hunt : s.collide.link.rx = huntReceiver := by rw [collides]; exact hunting
  refine ⟨?_, ?_, ?_⟩
  · rw [receiveByte_engaged engaged, hunt, takeByte_hunt_quiet]
    rfl
  · exact (congrArg State.powered collides).trans powered
  · rw [collides]
    exact settle_receiver u _ _

namespace State.CollidesInto

/-- COLLISION, and LINK_FRAMING of a first byte, are the reception of the colliding byte. -/
theorem exec_collision (hp : s.powered = true) (engaged : s.link.engaged = true) {stopFault : Bool}
    (h : s.CollidesInto b stopFault t) :
    exec (.collision b stopFault) s = .next t ∧ exec (.linkFraming [] b stopFault) s = .next t := by
  have first : s.receiveLast [] b stopFault = some (t, .quiet) := congrArg some h.byte
  refine ⟨?_, (exec_linkFraming_quiet hp first).trans (by rw [h.settled])⟩
  show execCollision b stopFault s = _
  rw [execCollision, event_occurs _ hp engaged, h.byte, h.settled]

variable (h : s.CollidesInto b false t)
include h

theorem receiveQuiet (rest : List Byte) : s.receiveQuiet (b :: rest) = t.receiveQuiet rest := by
  rw [State.receiveQuiet, h.byte]

theorem receiveLast (rest : List Byte) (last : Byte) (stopFault : Bool) :
    s.receiveLast (b :: rest) last stopFault = t.receiveLast rest last stopFault := by
  rw [State.receiveLast, h.receiveQuiet, State.receiveLast]

variable (hp : s.powered = true)
include hp

theorem linkGap (rest : List Byte) : exec (.linkGap (b :: rest)) s = exec (.linkGap rest) t ∨
    (exec (.linkGap (b :: rest)) s = .next s ∧ exec (.linkGap rest) t = .next t) := by
  show execLinkGap (b :: rest) s = execLinkGap rest t ∨ (execLinkGap (b :: rest) s = _ ∧ execLinkGap rest t = _)
  rw [execLinkGap, execLinkGap, if_pos hp, if_pos (h.powered.trans hp), h.receiveQuiet]
  cases heard : t.receiveQuiet rest with
  | none => exact .inr ⟨rfl, rfl⟩
  | some u =>
    left
    dsimp only
    cases u.link.rx.gapTimer with
    | some d => rfl
    | none =>
      cases rest with
      | nil =>
        obtain rfl := Option.some.inj heard
        exact congrArg Host.Outcome.next h.settled
      | cons c rest => rfl

theorem linkFraming (rest : List Byte) (last : Byte) (stopFault : Bool) :
    exec (.linkFraming (b :: rest) last stopFault) s = exec (.linkFraming rest last stopFault) t ∨
    (exec (.linkFraming (b :: rest) last stopFault) s = .next s ∧ exec (.linkFraming rest last stopFault) t = .next t) := by
  show execLinkFraming (b :: rest) last stopFault s = execLinkFraming rest last stopFault t ∨
    (execLinkFraming (b :: rest) last stopFault s = _ ∧ execLinkFraming rest last stopFault t = _)
  rw [execLinkFraming, execLinkFraming, if_pos hp, if_pos (h.powered.trans hp), h.receiveLast]
  split
  · exact .inl rfl
  · exact .inl rfl
  · exact .inr ⟨rfl, rfl⟩

theorem linkCheck (rest : List Byte) : exec (.linkCheck (b :: rest)) s = exec (.linkCheck rest) t ∨
    (exec (.linkCheck (b :: rest)) s = .next s ∧ exec (.linkCheck rest) t = .next t) := by
  rcases List.eq_nil_or_concat' rest with rfl | ⟨bytes, last, rfl⟩
  · left
    have alone : exec (.linkCheck ([] ++ [b])) s = .next t.settle := exec_linkCheck_quiet hp (congrArg some h.byte)
    refine alone.trans ?_
    show _ = execLinkCheck [] t
    rw [execLinkCheck, if_pos (h.powered.trans hp), h.settled]
    rfl
  · rw [← List.cons_append]
    show execLinkCheck (b :: bytes ++ [last]) s = execLinkCheck (bytes ++ [last]) t ∨
      (execLinkCheck (b :: bytes ++ [last]) s = _ ∧ execLinkCheck (bytes ++ [last]) t = _)
    rw [execLinkCheck, execLinkCheck, if_pos hp, if_pos (h.powered.trans hp), receiveLast_concat, receiveLast_concat,
      h.receiveLast]
    split
    · exact .inl rfl
    · exact .inl rfl
    · exact .inr ⟨rfl, rfl⟩

end State.CollidesInto

end

section
variable {s : State} (engaged : s.link.engaged = true) (hr : ¬s.owesReset)
include engaged hr

/-- A collision drops the reply owed, or the notice in progress when none is owed (R173). -/
theorem collide_drops : s.DroppedBy s.collide := by
  rw [← controllerByte_engaged engaged]
  exact controllerByte_drops hr

omit hr in
theorem sendsNotice_iff : s.sendsNotice ↔ s.link.owed = none := by
  refine ⟨fun h => h.1, fun owed => ⟨owed, fun idle => ?_⟩⟩
  rw [engaged_false_iff.2 ⟨owed, idle⟩] at engaged
  cases engaged

/-- What a collision counts (R173). -/
theorem collide_counts :
    s.collide.link.counters.repliesDropped = (if s.link.owed = none then s.link.counters.repliesDropped
      else min (s.link.counters.repliesDropped + 1) 4294967295) ∧
    s.collide.link.counters.noticesDropped =
      (if s.link.owed = none then min (s.link.counters.noticesDropped + 1) 4294967295
      else s.link.counters.noticesDropped) := by
  have drop := collide_drops engaged hr
  by_cases owed : s.link.owed = none
  · rw [if_pos owed, if_pos owed]
    exact ⟨drop.noReply owed, (drop.notice ((sendsNotice_iff engaged).2 owed)).2⟩
  · obtain ⟨r, reply⟩ := Option.ne_none_iff_exists'.1 owed
    rw [if_neg owed, if_neg owed]
    exact ⟨(drop.reply r reply).2, drop.noNotice fun h => owed h.1⟩

/-- What a collision reports: the type of the reply dropped, or that of the notice (R173). -/
theorem collide_errors {detail : Nat} (noReply : s.link.owed = none → detail = 0x7E)
    (reply : ∀ r, s.link.owed = some r → detail = r.type.toNat) :
    s.collide.sts.errors = pushError s.sts.errors ⟨.linkCollision, detail, s.timeBase % 65536⟩ := by
  have drop := collide_drops engaged hr
  cases owed : s.link.owed with
  | none =>
    rw [noReply owed]
    exact (drop.notice ((sendsNotice_iff engaged).2 owed)).1
  | some r =>
    rw [reply r owed]
    exact (drop.reply r owed).1

/-- The part after a collision and the reception of its byte (R169, R173). -/
theorem collide_heard (rx : Receiver) : s.collide.heard rx s.collide.clock = { s with
    sts := { s.collide.sts with enable := s.sts.enable }
    link := { s.link with
      owed := none, tx := .idle, lastStop := s.clock, noticePending := s.collide.link.noticePending, rx := rx
      counters := { s.link.counters with
        repliesDropped := if s.link.owed = none then s.link.counters.repliesDropped
          else min (s.link.counters.repliesDropped + 1) 4294967295
        noticesDropped := if s.link.owed = none then min (s.link.counters.noticesDropped + 1) 4294967295
          else s.link.counters.noticesDropped } } } := by
  have whole := (collide_drops engaged hr).whole
  obtain ⟨replies, notices⟩ := collide_counts engaged hr
  have clock : s.collide.clock = s.clock := (congrArg State.clock whole :)
  rw [← replies, ← notices, clock]
  exact congrArg (State.heard · rx s.clock) whole

end

theorem exec_collision_idle {s : State} (idle : s.link.engaged = false) (b : Byte) (f : Bool) :
    exec (.collision b f) s = .next s := by
  show execCollision b f s = _
  exact event_idle _ _ idle

/-- Settles O51: a frame is received byte by byte; a colliding byte is received first, and the rest reaches what it leaves. -/
theorem receptionFaultsAndCollisions : Obligations.ReceptionFaultsAndCollisions := by
  intro s hp engaged discarded received body inBody
  have engaged_iff : s.link.engaged = true ↔ engaged := by simp [LinkPort.engaged, engaged, Option.isSome_iff_ne_none]
  refine ⟨fun rest => ?_, fun busy => ?_⟩
  · have idle : s.link.engaged = false := Bool.eq_false_iff.2 fun h => rest (engaged_iff.1 h)
    refine ⟨fun hrx b => ⟨?_, fun other => ?_, fun start => ?_⟩, fun kept more holds => ?_,
      fun stopped => exec_linkGap_stopped hp stopped, fun b f => exec_collision_idle idle b f⟩
    · exact exec_linkFraming_hunt hp idle hrx b true
    · exact (exec_linkFraming_hunt hp idle hrx b false).trans (by rw [if_neg fun h => other h.2]; rfl)
    · exact (exec_linkFraming_hunt hp idle hrx b false).trans (by rw [if_pos ⟨rfl, start⟩]; rfl)
    · have keeps := hasKept_iff.2 holds
      refine ⟨fun bytes last => length_received hp idle keeps bytes last, fun len rest bytes inFrame => ?_,
        fun len type tag hi lo payload bytes begun low high whole =>
          check_received hp idle keeps bytes begun low high whole⟩
      refine ⟨stopFault_received hp idle keeps bytes inFrame, nextByte_received hp idle keeps bytes inFrame,
        gap_received hp idle keeps bytes inFrame, fun gap noMore hrx => ?_⟩
      subst noMore
      exact exec_linkGap_frame hp (stop := s.link.lastStop) (congrArg some (by
        show s = s.heard (inBody len rest gap) _
        rw [← hrx]
        rfl))
  · have he := engaged_iff.2 busy
    refine ⟨fun b f => ?_, fun b rest t collided => ?_, fun b f => ?_⟩
    · obtain ⟨collision, first⟩ := (collidesInto he b f).exec_collision hp he
      rw [collision, first]
    · have h := collidesInto he b false
      obtain rfl := Host.Outcome.next.inj ((h.exec_collision hp he).1.symm.trans collided)
      exact ⟨h.linkGap hp rest, h.linkFraming hp rest, h.linkCheck hp rest⟩
    · have h := collidesInto he b f
      refine ⟨_, (h.exec_collision hp he).1, fun detail reported noReset => ?_⟩
      have hr : ¬s.owesReset := fun ⟨r, owed, resets⟩ => noReset r owed resets
      have drop := collide_drops he hr
      refine ⟨?_, collide_errors he hr (fun owed => ?_) (fun r owed => ?_), drop.events, drop.noticePending⟩
      · rw [takeByte_hunt]
        exact collide_heard he hr _
      · rw [reported, owed]
      · rw [reported, owed]

end Sys2Proof.Machine
end

section
/-! The part's steps: the command in front of the queue, or time and the timers that are due (chapter 4.1, R12, R33, R34, R68,
R116, R118, R122, R129, R132, R134, R144, R152, R169, R171, R172). -/

namespace Sys2Proof.Machine

/-- Settles O1: the queue's front decides the step. -/
theorem stepRunsFrontCommand : Obligations.StepRunsFrontCommand := step_front

section

variable {s : State} {c : Instr}

/-! ### A step on an empty queue, by what is due (chapter 4.1) -/

theorem idleStep_unpowered (hp : s.powered = false) : idleStep s = .next s := by
  simp [idleStep, hp]

theorem idleStep_nothing_due (hp : s.powered = true) (due : s.dueCommands = []) :
    idleStep s = .next { s with clock := s.clock + 1 } := by
  simp [idleStep, hp, due]

theorem idleStep_one_due (hp : s.powered = true) (due : s.dueCommands = [c]) : idleStep s = exec c s := by
  simp [idleStep, hp, due]

theorem idleStep_several_due {d : Instr} {cs : List Instr} (hp : s.powered = true) (due : s.dueCommands = c :: d :: cs) :
    idleStep s = exec (pickDue c (d :: cs) (Config.firstDue s.freeCount)) { s with freeCount := s.freeCount + 1 } := by
  simp [idleStep, hp, due]

/-- Whatever the free choice, it is one of the commands due. -/
theorem pickDue_mem (c : Instr) (cs : List Instr) (choice : Nat) : pickDue c cs choice ∈ c :: cs := by
  have inList : choice % (cs.length + 1) < (c :: cs).length := Nat.mod_lt _ (Nat.succ_pos _)
  rw [pickDue, List.getElem?_eq_getElem inList]
  exact List.getElem_mem inList

/-! ### What is due, block by block -/

theorem isDue_iff {t : Timer} {now : Nat} : isDue t now = true ↔ ∃ d, t = some d ∧ d ≤ now := by
  cases t <;> simp [isDue]

theorem mem_dueIf {due : Bool} {d : Instr} : c ∈ dueIf due d ↔ due = true ∧ c = d := by
  cases due <;> simp [dueIf]

theorem mem_dueOfCam {i : Fin 4} : c ∈ s.dueOfCam i ↔
    ((s.cams[i].port.link = .training ∧ isDue s.cams[i].port.wordTimer s.clock = true) ∧ c = .wordTimerExpiry i) ∨
    (isDue s.cams[i].ring.staleTimer s.clock = true ∧ c = .staleDeadlineExpiry i) ∨
    (isDue s.cams[i].ring.lostTimer s.clock = true ∧ c = .lostDeadlineExpiry i) := by
  simp only [State.dueOfCam, List.mem_append, mem_dueIf, Bool.and_eq_true, beq_iff_eq, or_assoc]

theorem mem_dueOfDisplay : c ∈ s.dueOfDisplay ↔
    ((s.disp.state ≠ .off ∧ isDue s.disp.nextStart s.clock = true) ∧ c = .outputFrameStart) ∨
    ((s.disp.state = .starting ∧ isDue s.disp.settleTimer s.clock = true) ∧ c = .settleTimerExpiry) ∨
    ((s.disp.state = .hold ∧ isDue s.disp.holdTimer s.clock = true) ∧ c = .holdTimerExpiry) := by
  simp only [State.dueOfDisplay, List.mem_append, mem_dueIf, Bool.and_eq_true, beq_iff_eq, bne_iff_ne, or_assoc]

/-- The latest instant at which the owed reply begins has come (R171). -/
theorem replyLatest_due {l : LinkPort} {now : Nat} :
    isDue (l.owed.map fun r => r.owedAt + replyLatest) now = true ↔ ∃ r, l.owed = some r ∧ r.owedAt + 300 * 2 ≤ now := by
  rw [isDue_iff]
  cases l.owed <;> simp [replyLatest]

theorem mem_dueOfLink : c ∈ s.dueOfLink ↔
    (c = .linkGap [] ∧ isDue s.link.rx.gapTimer s.clock = true) ∨
    ((s.link.tx = .idle ∧ ∃ r, s.link.owed = some r ∧ r.owedAt + 300 * 2 ≤ s.clock) ∧ c = .replyStart) ∨
    (((s.link.noticePending = true ∧ s.link.owed = none ∧ s.link.tx = .idle ∧ s.link.rx.state = .hunt) ∧
      s.link.lastStop + 300 * 3 ≤ s.clock) ∧ c = .noticeStart) := by
  simp only [State.dueOfLink, List.mem_append, mem_dueIf, Bool.and_eq_true, beq_iff_eq, replyLatest_due, noticeReady_iff,
    decide_eq_true_eq, or_assoc]
  rw [and_comm (a := c = _)]
  rfl

/-- The inactivity deadline of the upload in progress has come (R68). -/
theorem uploadDeadline_due {m : MeshStore} {now : Nat} :
    isDue (m.upload.map Upload.deadline) now = true ↔ ∃ u, m.upload = some u ∧ u.deadline ≤ now := by
  rw [isDue_iff]
  cases m.upload <;> simp

/-- The release timer of an entry has come to its instant (R144). -/
theorem releaseTimer_due {n : Fin 16} : isDue (s.releaseTimer n) s.clock = true ↔
    ∃ e r d, s.sel.entries[n] = some e ∧ e.state = .releasing r (some d) ∧ d ≤ s.clock := by
  rw [isDue_iff]
  constructor
  · rintro ⟨d, running, come⟩
    obtain ⟨e, r, he, releasing⟩ := releaseTimer_eq_some_iff.1 running
    exact ⟨e, r, d, he, releasing, come⟩
  · rintro ⟨e, r, d, he, releasing, come⟩
    exact ⟨d, releaseTimer_eq_some_iff.2 ⟨e, r, he, releasing⟩, come⟩

/-- The timer of the override has come to its instant (R152). -/
theorem overrideTimer_due : isDue s.overrideTimer s.clock = true ↔
    ∃ o d, s.sel.override = some o ∧ o.timer = some d ∧ d ≤ s.clock := by
  rw [isDue_iff, State.overrideTimer]
  cases s.sel.override <;> simp

/-- Every command due is due in its own block. -/
theorem mem_dueCommands : c ∈ s.dueCommands ↔
    (∃ i, c ∈ s.dueOfCam i) ∨
    ((∃ u, s.mesh.upload = some u ∧ u.deadline ≤ s.clock) ∧ c = .meshInactivityExpiry) ∨
    c ∈ s.dueOfDisplay ∨
    (∃ n : Fin 6, isDue s.sig.wires[n].timer s.clock = true ∧ c = .debounceTimerExpiry n) ∨
    (∃ n : Fin 16, isDue s.sig.signals[n].timer s.clock = true ∧ c = .refreshTimerExpiry n) ∨
    (isDue s.sig.speedTimer s.clock = true ∧ c = .speedTimerExpiry) ∨
    (∃ n, (∃ e r d, s.sel.entries[n] = some e ∧ e.state = .releasing r (some d) ∧ d ≤ s.clock) ∧ c = .releaseTimerExpiry n) ∨
    ((∃ o d, s.sel.override = some o ∧ o.timer = some d ∧ d ≤ s.clock) ∧ c = .overrideExpiry) ∨
    c ∈ s.dueOfLink := by
  simp only [State.dueCommands, List.mem_append, List.mem_flatMap, List.mem_finRange, true_and, mem_dueIf, or_assoc,
    uploadDeadline_due, releaseTimer_due, overrideTimer_due]

end

/-- Settles O2: an empty queue's step by the number of commands due, and the commands due block by block. -/
theorem emptyQueueLetsTimePass : Obligations.EmptyQueueLetsTimePass := by
  refine ⟨fun s empty => ?_, fun s c => ?_⟩
  · rw [step_empty s empty]
    refine ⟨idleStep_unpowered, idleStep_nothing_due, fun c => idleStep_one_due, fun c d cs hp due => ?_⟩
    exact ⟨_, due ▸ pickDue_mem c (d :: cs) _, idleStep_several_due hp due⟩
  · simp only [mem_dueCommands, mem_dueOfCam, mem_dueOfDisplay, mem_dueOfLink, isDue_iff]
    split
    -- The statement's last clause: a command of no timer stands in no block.
    case h_16 => simp_all
    -- In each of the others one of the blocks' disjuncts is about that command.
    all_goals simp [and_assoc]

end Sys2Proof.Machine
end
